-- ==== Sys2Proof/Word.lean ====
section
/-! DEFINITION. The word types of the part: bytes, ticks, and sets of the sixteen output lines. -/

namespace Sys2Proof

/-- One byte of a frame (R138, R178). -/
abbrev Byte := BitVec 8

/-- A timebase value, due tick or capture tick: 32 bits, modulo 2^32 (R1, R178). -/
abbrev Tick := BitVec 32

/-- A set of output lines; bit k stands for line Lk (R178). -/
abbrev LineSet := BitVec 16

/-- One level for each output line; bit k is the level of Lk, set for high (R178). -/
abbrev LevelSet := BitVec 16

end Sys2Proof
end

