-- ==== Sys2Proof/Syntax.lean ====
section
/-! DEFINITION. The steps of the part: one constructor of `Instr` for each row of spec/opcode_table.json. -/

namespace Sys2Proof

/-- A port, P0 to P3. -/
abbrev PortId := Fin 4

/-- A trigger input, T0 to T3. -/
abbrev InputId := Fin 4

/-- An entry slot, 0 to 63 (R37). -/
abbrev SlotId := Fin 64

/-- The blocks a request can be handed to (08_the_port_link.md, table before R151). -/
inductive Block where
  | session | noticeQueue | timebase | lineTable | scheduleUnit | patternStore | triggerUnit
  deriving DecidableEq, Repr

/-- The two blocks that post notices (R123, R125). -/
inductive NoticeSource where
  | scheduleUnit | triggerUnit
  deriving DecidableEq, Repr

/-- The questions that a STATUS asks (R168): the count question of the notice queue (R133), the owned-line question of
the line table, the count question of the schedule unit (R63), and the timebase value (R4). -/
inductive StatusQuestion where
  | noticeCount | ownedLines | entryCount | timebaseValue
  deriving DecidableEq, Repr

/-- A question of the STATUS of a port. -/
structure Ask where
  port : PortId
  question : StatusQuestion
  deriving DecidableEq, Repr

/-- A fall of the LINKP of a port: `edges` counts the rising edges of SCLK in the window that it ends, the opener's eight
included (R149). -/
structure LinkFall where
  port : PortId
  edges : Nat
  deriving DecidableEq, Repr

/-- One step of the part, whole and indivisible (spec/95_what_each_step_holds.md).
A step that takes a request or a message takes the one that waits in the state for that port and block;
its arguments came with it (R152, R181). -/
inductive Instr where
  -- The commands, each taken by its owning block
  -- the question is the one that its block takes next: each block answers at its own moment (R168)
  | status (p : Ask)
  | heartbeat (p : PortId)
  | parting (p : PortId)
  | fetch (p : PortId)
  | time (p : PortId)
  | prescale (p : PortId)
  | claim (p : PortId)
  | release (p : PortId)
  | drive (p : PortId)
  | lines (p : PortId)
  | schedule (p : PortId)
  | cancel (p : PortId)
  | query (p : PortId)
  | list (p : PortId)
  | alloc (p : PortId)
  | free (p : PortId)
  | load (p : PortId)
  | segments (p : PortId)
  | subscribe (p : PortId)
  | unsubscribe (p : PortId)
  | inputs (p : PortId)
  -- The RESET pin
  | resetAssertion
  | resetRelease
  -- Ticks, firings and edges; `levels` are the levels of T0 to T3 on the REFCLK period, bit k for Tk (R104)
  | tick (levels : BitVec 4)
  | scheduleUnitTick
  | expiry (slot : SlotId)
  | triggerUnitTick
  | releaseRequest (input : InputId)
  | endOfTickReport
  | sessionControllerTick (p : PortId)
  | lapse (p : PortId)
  -- The link pins
  | linkpFall (p : LinkFall)
  | linkpRise (p : PortId)
  | reportOfLinkpRising (p : PortId)
  | reportOfLinkpFalling (p : PortId)
  | windowOpen (p : PortId)
  -- `bits` are the levels of SDI on the first eight rising edges of SCLK in the window, in order (R138)
  | opener (p : PortId) (bits : Vector Bool 8)
  -- SEL is deasserted: `bits` and then `stray` are the levels of SDI on the rising edges of SCLK after the opener's, in order
  -- (R138); `stray` are those after the last whole byte (R141)
  | commandWindowClose (p : PortId) (bits stray : List Bool)
  -- SEL is deasserted: `edges` counts the rising edges of SCLK in the whole window, the opener's eight included (R149)
  | responseWindowClose (p : PortId) (edges : Nat)
  -- Reports between the two halves of a port, completions and withdrawals
  | acceptanceReport (p : PortId)
  | acceptanceAnswer (p : PortId)
  | completion (p : PortId)
  | withdrawalRequest (p : PortId) (block : Block)
  | withdrawalReply (p : PortId)
  | departureInstruction (p : PortId)
  | settlementReport (p : PortId)
  -- Events of the notice queues
  | departureReport (p : PortId)
  | attachmentReport (p : PortId)
  | acknowledgement (p : PortId)
  | returnRequest (p : PortId)
  | post (p : PortId) (source : NoticeSource)
  -- The further events of a RELEASE and of orphan processing
  | releaseCancellationRequest (p : PortId)
  | releaseCompletion (p : PortId)
  | orphanStart (p : PortId)
  | orphanRequest (p : PortId)
  | orphanCompletion (p : PortId)
  | orphanCompletionReply (p : PortId)
  -- The steps of a PARTING
  | partingRequest (p : PortId)
  | lineStep (p : PortId)
  | freeStep (p : PortId)
  | subscriptionStep (p : PortId)
  | flush (p : PortId)
  | partingStepReply (p : PortId)
  | flushReply (p : PortId)
  -- The reference clock
  | refclkPeriod (levels : BitVec 4)
  deriving DecidableEq, Repr

end Sys2Proof
end

