-- ==== Sys2Proof/Decode.lean ====
section
/-! DEFINITION. The command that a word spells by the bits of spec/opcode_table.json. No row of the table gives bits
(every row's "fields" is empty), so no word spells a command (log 4). The wire formats of the part's own frames are
decoded in Sys2Proof/Machine/Operands.lean. -/

namespace Sys2Proof

/-- No row of the opcode table gives bits: every word is refused. -/
def decodeTableWord (_nbits _w : Nat) : Option Instr := none

end Sys2Proof
end

