-- ==== Sys2Proof/Config.lean ====
section
/-! DEFINITION. What the part fixes (capacities and wire constants) and its one free value. -/

namespace Sys2Proof.Config

/-- The horizon, 2^31 - 1 ticks (R5). -/
def horizon : Nat := 2147483647

/-- A notice queue holds at most sixteen ordinary notices (R126). -/
def queueCapacity : Nat := 16

/-- The counts of an overrun marker stop here (R127). -/
def countLimit : Nat := 65535

/-- The longest heartbeat interval, in ticks (R169). -/
def maxHeartbeat : Nat := 16777215

/-- A LIST carries at most twelve entries (R60). -/
def listPage : Nat := 12

/-- A command window keeps at most this many bytes after its opener: 99 with it (R141). -/
def keptBytes : Nat := 98

/-- The byte values of R180. -/
def commandOpener : Byte := 0x6C
def responseOpener : Byte := 0x93
def noneMarker : Byte := 0x81
def busyMarker : Byte := 0x82
def readyMarker : Byte := 0x84

/-- FREE VALUE (DESIGN CHOICE, log 19): the word a word question is answered with when it names a free segment
record or a position beyond the segment. R95 and R101 say that no firing asks such a question, and give no answer for it. -/
opaque wordOutsideSegment : Nat → Nat → LevelSet

end Sys2Proof.Config
end

