-- ==== Sys2Proof/Machine/State.lean ====
section
/-! DEFINITION. The state of the part, block by block, with the messages under way between the blocks, and its value
after RESET. INVENTORY.md lists every field with its rule. -/

namespace Sys2Proof.Machine

/-- No rule of the spec stops the part, so no step ends in a fault. -/
inductive Fault where
  deriving DecidableEq, Repr

/-- Why a step has no meaning. -/
inductive Refusal where
  /-- Raised by an arm of `exec` for a step that has no meaning yet. Safe: the model stops. No arm is left so. -/
  | notModelled (mnemonic : String)
  deriving DecidableEq, Repr

/-! ### Named values (R178) -/

/-- An orphan policy (R13, R15). -/
inductive Policy where
  | hold | freeze | safe
  deriving DecidableEq, Repr

/-- The direction of an edge (R104). -/
inductive Direction where
  | rise | fall
  deriving DecidableEq, Repr

/-- An edge selection (R110). -/
inductive EdgeSelection where
  | rise | fall | either
  deriving DecidableEq, Repr

/-- A notify mode (R36). -/
inductive Notify where
  | none | last | each
  deriving DecidableEq, Repr

/-- A late policy (R48). -/
inductive LatePolicy where
  | refuse | fireNow
  deriving DecidableEq, Repr

/-- The cause of a CANCELLED notice (R123). -/
inductive CancelCause where
  | released | orphaned | collided
  deriving DecidableEq, Repr

/-- The cause of RECOVERING (R159). -/
inductive RecoveryCause where
  | reset | linkLoss | lapse
  deriving DecidableEq, Repr

/-- The status of a response (R182). -/
inductive Status where
  | ok | notReady | badFrame | unknown | badArg | held | notOwner | full | duplicate | late | notFound | inUse | noSpace
  deriving DecidableEq, Repr

/-- A count of firings or notices still to come: a number, or UNBOUNDED (R36, R108). -/
inductive Remaining where
  | counted (n : Nat)
  | unbounded
  deriving DecidableEq, Repr

/-! ### The timebase -/

/-- The timebase (R1, R2, R10, R12). -/
structure Timebase where
  value : Tick
  prescale : Nat
  intervalLength : Nat
  intervalCount : Nat
  deriving DecidableEq, Repr

/-! ### The line table -/

/-- What a firing action does to the level of a line of its set (R33). -/
inductive FiringAction where
  | high
  | low
  | invert
  | levels (word : LevelSet)
  deriving DecidableEq, Repr

/-- A line record (R13). Levels are true for high. -/
structure Line where
  owner : Option PortId
  level : Bool
  safeLevel : Bool
  policy : Option Policy
  held : Bool
  deriving DecidableEq, Repr

/-! ### The schedule unit -/

/-- What a firing does (R36). A PATTERN entry names its segment and the position its next firing reads. -/
inductive Action where
  | set | clear | toggle
  | pattern (segment : Fin 8) (position : Nat)
  deriving DecidableEq, Repr

/-- The state of an entry (R36): TIMED with its due tick, or WAITING with its trigger and its newly joined mark (R116). -/
inductive EntryState where
  | timed (due : Tick)
  | waiting (input : InputId) (selection : EdgeSelection) (offset : BitVec 24) (newlyJoined : Bool)
  deriving DecidableEq, Repr

/-- An entry (R36). Its handle is the number and the generation of the slot that holds it. -/
structure Entry where
  port : PortId
  label : BitVec 16
  lines : LineSet
  action : Action
  state : EntryState
  remaining : Remaining
  interval : Option (BitVec 24)
  notify : Notify
  latePolicy : Option LatePolicy
  deriving DecidableEq, Repr

/-- A slot: its generation, and its entry unless it is FREE (R37). -/
structure Slot where
  generation : Byte
  entry : Option Entry
  deriving DecidableEq, Repr

/-- A handle: slot number and generation (R36). -/
structure Handle where
  slot : SlotId
  generation : Byte
  deriving DecidableEq, Repr

/-- The schedule unit: now (R35), the slot pool (R37), and whether the end-of-tick report of now was taken (R115). -/
structure ScheduleUnit where
  now : Tick
  slots : Vector Slot 64
  endOfTickTaken : Bool
  deriving DecidableEq, Repr

/-! ### The pattern store -/

/-- An allocated segment record (R89). -/
structure Segment where
  owner : PortId
  base : Nat
  length : Nat
  deriving DecidableEq, Repr

/-- The pattern store: words (R88) and segment records, `none` for a free record (R89). -/
structure PatternStore where
  words : Vector LevelSet 256
  segments : Vector (Option Segment) 8
  deriving DecidableEq, Repr

/-! ### The trigger unit -/

/-- An input record (R105). Last capture tick and last direction describe one edge and are present together. -/
structure Input where
  sampled : Option Bool
  lastEdge : Option (Tick × Direction)
  edgeCount : BitVec 16
  deriving DecidableEq, Repr

/-- A subscription (R108). -/
structure Subscription where
  port : PortId
  input : InputId
  selection : EdgeSelection
  remaining : Remaining
  deriving DecidableEq, Repr

/-- The trigger unit: input records (R105) and subscription places (R108). -/
structure TriggerUnit where
  inputs : Vector Input 4
  places : Vector (Option Subscription) 8
  deriving DecidableEq, Repr

/-! ### Notices -/

/-- An ordinary notice (R123). -/
inductive Notice where
  | fired (handle : Handle) (label : BitVec 16) (tick : Tick) (remaining : Remaining) (late : Bool)
  | done (handle : Handle) (label : BitVec 16) (tick : Tick) (late : Bool)
  | cancelled (handle : Handle) (label : BitVec 16) (tick : Tick) (remaining : Remaining) (cause : CancelCause)
  | captured (tick : Tick) (input : InputId) (direction : Direction) (subscription : Fin 8) (final : Bool)
  deriving DecidableEq, Repr

/-- A queued ordinary notice with its in-flight mark (R124). -/
structure Item where
  notice : Notice
  inFlight : Bool
  deriving DecidableEq, Repr

/-- The overrun marker (R127); `later` is its later tick and later count. -/
structure Marker where
  tick : Tick
  dropped : Nat
  inFlight : Bool
  later : Option (Tick × Nat)
  deriving DecidableEq, Repr

/-- The notice queue of a port (R124): its ordinary notices oldest first, the marker behind them, the attached record. -/
structure NoticeQueue where
  items : List Item
  marker : Option Marker
  attached : Bool
  deriving DecidableEq, Repr

/-- An item as FETCH delivers it (R128): a notice, or the marker's tick and dropped count. -/
inductive Delivered where
  | notice (n : Notice)
  | overrun (tick : Tick) (dropped : Nat)
  deriving DecidableEq, Repr

/-! ### Commands and their results -/

/-- The arguments of SCHEDULE as they travel (R181); `area` is the six bytes of the mode area. -/
structure ScheduleArgs where
  mode : Byte
  label : BitVec 16
  lines : LineSet
  action : Byte
  segment : Byte
  position : Byte
  count : BitVec 16
  interval : BitVec 24
  notify : Byte
  area : BitVec 48
  deriving DecidableEq, Repr

/-- A request as it is handed to its block: the command with its argument fields, not yet range-checked (R181, R183). -/
inductive Command where
  | status
  | heartbeat (interval : BitVec 32)
  | parting
  | fetch (maximum : Byte)
  | time
  | prescale (value : BitVec 24)
  | claim (lines : LineSet) (safeLevels : LevelSet) (policy : Byte)
  | release (lines : LineSet)
  | drive (lines : LineSet) (levels : LevelSet)
  | lines
  | schedule (args : ScheduleArgs)
  | cancel (slot generation : Byte)
  | query (slot generation : Byte)
  | list (k : Byte)
  | alloc (length : BitVec 16)
  | free (segment : Byte)
  | load (segment offset : Byte) (words : List LevelSet)
  | segments
  | subscribe (input selection : Byte) (count : BitVec 16)
  | unsubscribe (number : Byte)
  | inputs
  deriving DecidableEq, Repr

/-- The state of an entry as a response reports it (R178). -/
inductive ReportedState where
  | timed | waiting | ended
  deriving DecidableEq, Repr

/-- The port state (R159); RECOVERING carries its cause. -/
inductive PortState where
  | detached
  | recovering (cause : RecoveryCause)
  | attached
  deriving DecidableEq, Repr

/-- The status record (R168). The current state is always ATTACHED. -/
structure StatusRecord where
  previous : PortState
  notices : Nat
  marker : Option Nat
  heartbeat : BitVec 24
  ownedLines : LineSet
  pendingEntries : Nat
  timebaseValue : Tick
  deriving DecidableEq, Repr

/-- One entry of a LIST response (R60, R184). -/
structure ListItem where
  handle : Handle
  due : Option Tick
  deriving DecidableEq, Repr

/-- The results a completion carries (R184, and HELD and LATE of R182). -/
inductive Result where
  | empty
  | status (record : StatusRecord)
  | heartbeat (previous : BitVec 24)
  | parting (entries lines segments subscriptions : Nat)
  | fetch (items : List Delivered) (queued : Nat)
  | time (value : Tick) (prescale : Nat)
  | prescale (previous : Nat) (value : Tick)
  | claim (newlyOwned : LineSet)
  | held (conflicting : LineSet)
  | release (cancelled : Nat)
  | lines (records : Vector Line 16)
  | schedule (handle : Handle) (state : ReportedState) (due : Option Tick)
  | late (now : Tick)
  | cancel (remaining : Remaining) (state : ReportedState)
  | query (handle : Handle) (entry : Entry)
  | list (total : Nat) (items : List ListItem)
  | alloc (segment : Fin 8) (base : Nat)
  | free (base length : Nat)
  | segments (records : Vector (Option Segment) 8) (unallocated longestHole : Nat)
  | subscribe (number : Fin 8)
  | unsubscribe (remaining : Remaining)
  | inputs (records : Vector Input 4) (places : Vector (Option Subscription) 8)
  deriving DecidableEq, Repr

/-- A completion (R150). -/
structure Completion where
  status : Status
  result : Result
  deriving DecidableEq, Repr

/-! ### The port link controller -/

/-- The window of a port (R140). A response window holds what it sends after the opener; filler follows (R148). -/
inductive Window where
  | closed
  | opening
  | command
  | response (sent : List Byte)
  | ignored
  deriving DecidableEq, Repr

/-- An accepted command (R144): `block` is absent until the request is handed to a block. -/
structure Request where
  sequence : Byte
  code : Byte
  args : List Byte
  block : Option Block
  deriving DecidableEq, Repr

/-- The response path (R144), each state with the fields present in it. -/
inductive Path where
  | idle
  | pending (request : Request) (discard : Bool)
  | ready (frame : List Byte) (delivery : Bool)
  | sending (frame : List Byte) (delivery : Bool)
  deriving DecidableEq, Repr

/-- The port link controller: link pins, window, response path and marks (R138, R140, R144), and whether the
reply to the withdrawal of the request it holds has still to be taken (R164). -/
structure Link where
  linkp : Bool
  sel : Bool
  window : Window
  path : Path
  priorLost : Bool
  discardedFrame : Bool
  replyDue : Bool
  deriving DecidableEq, Repr

/-! ### The session controller -/

/-- The departure field (R159). -/
inductive Departure where
  | none
  | awaiting (orphanOwed : Bool)
  deriving DecidableEq, Repr

/-- The five steps of a parting (R174). -/
inductive PartingStep where
  | entries | lines | segments | subscriptions | flush
  deriving DecidableEq, Repr

/-- A parting under way (R159): its step and the counts gathered so far (R175). -/
structure Parting where
  step : PartingStep
  entries : Nat
  lines : Nat
  segments : Nat
  subscriptions : Nat
  deriving DecidableEq, Repr

/-- The waiting request of a session controller (R159): its command, and whether it is a held STATUS (R167). -/
structure Waiting where
  command : Command
  held : Bool
  deriving DecidableEq, Repr

/-- The answers that a STATUS has so far (R168): the count question of the notice queue, the owned lines, the number of
entries, the timebase value. -/
structure Asked where
  notices : Option (Nat × Option Nat)
  lines : Option LineSet
  entries : Option Nat
  value : Option Tick
  deriving DecidableEq, Repr

/-- The session record (R159). `removed`: a departure event removed the waiting request, and the withdrawal that looks
for it has not been taken (R164). `asking`: a STATUS has been taken and its questions are being answered (R168). -/
structure Session where
  state : PortState
  attachedSinceReset : Bool
  heartbeat : BitVec 24
  lapseCount : Option Nat
  departure : Departure
  orphan : Bool
  parting : Option Parting
  waiting : Option Waiting
  removed : Bool
  asking : Option Asked
  deriving DecidableEq, Repr

/-! ### Messages between the blocks of one port -/

/-- A report of LINKP (R139). -/
inductive LinkpReport where
  | rising | falling
  deriving DecidableEq, Repr

/-- From the port link controller to its session controller (R151, R164). -/
inductive ToSession where
  | acceptance (code : Byte)
  | settlement
  deriving DecidableEq, Repr

/-- A withdrawal request under way to a block (R153). `live`: no request was handed to a block since it was sent, so it
can only mean the request then in flight. One that is not `live` was sent before the request in flight, and reaches the
block before it (R152). -/
structure Withdrawal where
  block : Block
  live : Bool
  deriving DecidableEq, Repr

/-- What the block of a request sends the port link controller: the completion (R150), or the answer to a withdrawal
(R153). A "taken" reply that is not `live` answers the withdrawal of a request that another request has followed since. -/
inductive ToLink where
  | completion (c : Completion)
  | withdrawn
  | taken (live : Bool)
  | fetchWithdrawn
  deriving DecidableEq, Repr

/-- From the session controller to its port link controller, its own completions and replies among them: what it sends
that block is taken in the order sent (R151, R160, R162, R170). -/
inductive FromSession where
  | answer (attached : Bool)
  | departure (toDetached : Bool)
  | reply (message : ToLink)
  deriving DecidableEq, Repr

/-- From the session controller to its notice queue (R129, R134, R160). -/
inductive ToQueue where
  | attachment | departure | flush
  deriving DecidableEq, Repr

/-- From the port link controller to its notice queue (R130, R131). -/
inductive LinkToQueue where
  | acknowledge | giveBack
  deriving DecidableEq, Repr

/-- From the session controller to the line table (R160, R171, R174). -/
inductive ToLines where
  | orphanStart | lineStep
  deriving DecidableEq, Repr

/-- A reply of the schedule unit to a cancellation request of the line table (R62), under way to the line table and taken
there in the order sent (R16). -/
inductive LineReply where
  | release (p : PortId) (cancelled : Nat)
  | orphan (p : PortId)
  deriving DecidableEq, Repr

/-- A release request of the trigger unit (R107). -/
structure ReleaseRequest where
  input : InputId
  direction : Direction
  tick : Tick
  deriving DecidableEq, Repr

/-- The messages under way for one port, each list oldest first. `toLink` comes from the blocks other than the session
controller. -/
structure Wires where
  ticks : List Tick
  linkpReports : List LinkpReport
  toSession : List ToSession
  fromSession : List FromSession
  toLink : List ToLink
  toQueue : List ToQueue
  linkToQueue : List LinkToQueue
  /-- The request handed to a block other than the session controller, and waiting there (R152). -/
  request : Option Command
  withdrawals : List Withdrawal
  postsOfSchedule : List Notice
  postsOfTrigger : List Notice
  releaseRequest : Option LineSet
  toLines : List ToLines
  orphanRequest : Option LineSet
  orphanReply : Bool
  /-- The request of the parting step under way, for steps 1, 3 and 4 (R174). -/
  partingRequest : Bool
  /-- The reply to the parting step under way, with its count (R174). -/
  partingReply : Option Nat
  deriving DecidableEq, Repr

/-- Everything the part holds for one port. `releasing` and `orphanSafe` are the line table's: the released set of a
RELEASE between its two events (R24, R25), and the SAFE set kept with an orphan request (R171). -/
structure Port where
  link : Link
  session : Session
  queue : NoticeQueue
  releasing : Option LineSet
  orphanSafe : Option LineSet
  wires : Wires
  deriving DecidableEq, Repr

/-- The state of the part. -/
structure State where
  resetAsserted : Bool
  inputPins : BitVec 4
  timebase : Timebase
  lines : Vector Line 16
  schedule : ScheduleUnit
  store : PatternStore
  trigger : TriggerUnit
  ports : Vector Port 4
  ticksToSchedule : List Tick
  ticksToTrigger : List (Tick × BitVec 4)
  releaseRequests : List ReleaseRequest
  endOfTickReports : List Tick
  scheduleToLines : List LineReply
  /-- The steps still to be taken, first in first out. -/
  pending : List Instr
  deriving DecidableEq, Repr

/-! ### The values after RESET -/

/-- R13, R14: unowned, low, safe level low. -/
def Line.reset : Line :=
  { owner := none, level := false, safeLevel := false, policy := none, held := false }

/-- R40: FREE with generation 0. -/
def Slot.reset : Slot := { generation := 0, entry := none }

/-- R106: no sample, no edge, edge count 0. -/
def Input.reset : Input := { sampled := none, lastEdge := none, edgeCount := 0 }

/-- R124: empty, no marker, attached record no. -/
def NoticeQueue.reset : NoticeQueue := { items := [], marker := none, attached := false }

/-- R144, R156: no window, path IDLE, every mark clear. The pins are the environment's. -/
def Link.reset (linkp sel : Bool) : Link :=
  { linkp := linkp, sel := sel, window := .closed, path := .idle, priorLost := false, discardedFrame := false,
    replyDue := false }

/-- R159: every field but the port state, which LINKP and RESET decide. -/
def Session.reset (state : PortState) : Session :=
  { state := state, attachedSinceReset := false, heartbeat := 0, lapseCount := none, departure := .none, orphan := false,
    parting := none, waiting := none, removed := false, asking := none }

/-- R40, R87, R122, R135, R156, R163: nothing in flight survives RESET. -/
def Wires.reset : Wires :=
  { ticks := [], linkpReports := [], toSession := [], fromSession := [], toLink := [], toQueue := [], linkToQueue := [],
    request := none, withdrawals := [], postsOfSchedule := [], postsOfTrigger := [], releaseRequest := none,
    toLines := [], orphanRequest := none, orphanReply := false, partingRequest := false, partingReply := none }

def Port.reset (linkp sel : Bool) (state : PortState) : Port :=
  { link := Link.reset linkp sel, session := Session.reset state, queue := NoticeQueue.reset, releasing := none,
    orphanSafe := none, wires := Wires.reset }

/-- R7: value 0, prescale and interval length 1, interval count 0. -/
def Timebase.reset : Timebase := { value := 0, prescale := 1, intervalLength := 1, intervalCount := 0 }

/-- R40; the end-of-tick report of the tick before the first one is not owed (log 21). -/
def ScheduleUnit.reset : ScheduleUnit :=
  { now := 0, slots := Vector.replicate 64 Slot.reset, endOfTickTaken := true }

/-- R88, R89. -/
def PatternStore.reset : PatternStore :=
  { words := Vector.replicate 256 0, segments := Vector.replicate 8 none }

/-- R106, R122. -/
def TriggerUnit.reset : TriggerUnit :=
  { inputs := Vector.replicate 4 Input.reset, places := Vector.replicate 8 none }

/-- Right after the release of RESET. The pins, which the spec leaves to the board, stand as log 5 names them: LINKP
present on every port, SEL deasserted, T0 to T3 low. Each port is RECOVERING with cause RESET (R159, R163). -/
def State.reset : State :=
  { resetAsserted := false, inputPins := 0, timebase := Timebase.reset, lines := Vector.replicate 16 Line.reset,
    schedule := ScheduleUnit.reset, store := PatternStore.reset, trigger := TriggerUnit.reset,
    ports := Vector.replicate 4 (Port.reset true false (.recovering .reset)),
    ticksToSchedule := [], ticksToTrigger := [], releaseRequests := [], endOfTickReports := [], scheduleToLines := [],
    pending := [] }

end Sys2Proof.Machine
end

