-- ==== Sys2Proof/Machine/Ops.lean ====
section
/-! DEFINITION. The operations the blocks share: time by distance, sets of lines, reading and changing the parts of the
state, the questions one block asks another, endings of entries, safe returns, and the sending of messages. -/

namespace Sys2Proof.Machine

/-- The answer of a step. -/
abbrev Answer := Host.Outcome State Fault Refusal

/-! ### Time -/

/-- The distance from a to b: (b - a) modulo 2^32 (R5). -/
def distance (a b : Tick) : Nat := (b - a).toNat

/-- b is in the future of a (R5). -/
def inFuture (a b : Tick) : Bool := decide (0 < distance a b ∧ distance a b ≤ Config.horizon)

/-- A tick plus a number of ticks of 24 bits, modulo 2^32 (R72, R117). -/
def later (t : Tick) (ticks : BitVec 24) : Tick := t + ticks.setWidth 32

/-! ### Sets of lines -/

def hasLine (ls : LineSet) (i : Fin 16) : Bool := ls.getLsbD i.val

def sharesLine (a b : LineSet) : Bool := a &&& b != 0

/-- The set of the lines that satisfy a test. -/
def lineSetOf (f : Fin 16 → Bool) : LineSet :=
  BitVec.ofBoolListLE
    [f 0, f 1, f 2, f 3, f 4, f 5, f 6, f 7, f 8, f 9, f 10, f 11, f 12, f 13, f 14, f 15]

/-! ### Reading and changing parts of the state -/

def State.port (s : State) (p : PortId) : Port := s.ports[p]

def State.line (s : State) (i : Fin 16) : Line := s.lines[i]

def State.slot (s : State) (i : SlotId) : Slot := s.schedule.slots[i]

def State.entry (s : State) (i : SlotId) : Option Entry := (s.slot i).entry

def State.updPort (s : State) (p : PortId) (f : Port → Port) : State :=
  { s with ports := s.ports.set p (f s.ports[p]) }

def State.updLink (s : State) (p : PortId) (f : Link → Link) : State :=
  s.updPort p fun pt => { pt with link := f pt.link }

def State.updSession (s : State) (p : PortId) (f : Session → Session) : State :=
  s.updPort p fun pt => { pt with session := f pt.session }

def State.updQueue (s : State) (p : PortId) (f : NoticeQueue → NoticeQueue) : State :=
  s.updPort p fun pt => { pt with queue := f pt.queue }

def State.updWires (s : State) (p : PortId) (f : Wires → Wires) : State :=
  s.updPort p fun pt => { pt with wires := f pt.wires }

def State.updLines (s : State) (f : Fin 16 → Line → Line) : State :=
  { s with lines := Vector.ofFn fun i => f i s.lines[i] }

def State.setSlot (s : State) (i : SlotId) (sl : Slot) : State :=
  { s with schedule := { s.schedule with slots := s.schedule.slots.set i sl } }

/-! ### Requests at a block -/

/-- The owning block of a command (table before R151). -/
def Command.block : Command → Block
  | .status | .heartbeat _ | .parting => .session
  | .fetch _ => .noticeQueue
  | .time | .prescale _ => .timebase
  | .claim _ _ _ | .release _ | .drive _ _ | .lines => .lineTable
  | .schedule _ | .cancel _ _ | .query _ _ | .list _ => .scheduleUnit
  | .alloc _ | .free _ | .load _ _ _ | .segments => .patternStore
  | .subscribe _ _ _ | .unsubscribe _ | .inputs => .triggerUnit

/-- No withdrawal that was sent to the block before the request in flight waits there any more: what one port link
controller sends to one block reaches it in the order sent (R152). -/
def Wires.inOrder (w : Wires) (b : Block) : Bool := w.withdrawals.all fun x => x.live || decide (x.block ≠ b)

/-- The request of the port that has reached its block and waits there (R152). -/
def Port.request (pt : Port) : Option Command := pt.wires.request.filter fun c => pt.wires.inOrder c.block

/-- The request that has reached the session controller and waits there (R152, R159). -/
def Port.sessionRequest (pt : Port) : Option Waiting := if pt.wires.inOrder .session then pt.session.waiting else none

/-! ### Completions -/

/-- The session controller completes the request of port p, behind what it sent its port link controller before (R150,
R160). -/
def State.reply (s : State) (p : PortId) (status : Status) (result : Result) : State :=
  s.updWires p fun w => { w with fromSession := w.fromSession ++ [.reply (.completion ⟨status, result⟩)] }

/-- The block that took the waiting request of port p completes it (R152). -/
def State.finish (s : State) (p : PortId) (status : Status) (result : Result) : State :=
  s.updWires p fun w => { w with request := none, toLink := w.toLink ++ [.completion ⟨status, result⟩] }

/-! ### Questions to the line table -/

/-- The lines whose owner is port p, those held for release included (R168). -/
def State.ownedLines (s : State) (p : PortId) : LineSet :=
  lineSetOf fun i => decide ((s.line i).owner = some p)

/-- The ownership question (R30): every line of the set is owned by p and not held for release. -/
def State.ownsForEntry (s : State) (p : PortId) (ls : LineSet) : Bool :=
  (List.finRange 16).all fun i => !hasLine ls i || (decide ((s.line i).owner = some p) && !(s.line i).held)

/-- Every line of the set is owned by p (R23, R31). -/
def State.ownsAll (s : State) (p : PortId) (ls : LineSet) : Bool :=
  (List.finRange 16).all fun i => !hasLine ls i || decide ((s.line i).owner = some p)

/-! ### Changes of line records -/

/-- The safe return of a line (R26). -/
def Line.safeReturn (l : Line) : Line :=
  { l with owner := none, policy := none, held := false, level := l.safeLevel }

/-- The safe return of every line that satisfies a test, in one event. -/
def State.returnLines (s : State) (f : Fin 16 → Line → Bool) : State :=
  s.updLines fun i l => if f i l then l.safeReturn else l

/-- The level that a firing action gives line i (R33). -/
def FiringAction.level (a : FiringAction) (i : Fin 16) (old : Bool) : Bool :=
  match a with
  | .high => true
  | .low => false
  | .invert => !old
  | .levels w => hasLine w i

/-- The line table takes a firing action (R33): the lines of the set change level, nothing else changes. -/
def State.applyFiring (s : State) (a : FiringAction) (ls : LineSet) : State :=
  s.updLines fun i l => if hasLine ls i then { l with level := a.level i l.level } else l

/-- The line table has taken every reply of the schedule unit. It takes the requests of the schedule unit in the order
sent (R16), and a firing action or an ownership question within the event that sends it (R43, R67): such an event comes
after the replies sent before it (log 11). -/
def State.repliesTaken (s : State) : Bool := s.scheduleToLines.isEmpty

/-! ### Entries and the due queue -/

/-- The entry has due tick t and shares a line with the set. -/
def Entry.holds (e : Entry) (t : Tick) (ls : LineSet) : Bool :=
  decide (e.state = .timed t) && sharesLine e.lines ls

/-- A TIMED entry in a slot other than `self` that shares a line with the set holds due tick t (R41, R52, R72, R117). -/
def ScheduleUnit.dueHeld (u : ScheduleUnit) (self : Option SlotId) (ls : LineSet) (t : Tick) : Bool :=
  (List.finRange 64).any fun i => decide (self ≠ some i) && (u.slots[i].entry.any fun e => e.holds t ls)

/-- A WAITING entry of the same input and offset that shares a line with the set stands in the waiting list (R42, R52). -/
def ScheduleUnit.waitingHeld (u : ScheduleUnit) (ls : LineSet) (input : InputId) (offset : BitVec 24) : Bool :=
  (List.finRange 64).any fun i => u.slots[i].entry.any fun e =>
    match e.state with
    | .waiting input' _ offset' _ => decide (input' = input ∧ offset' = offset) && sharesLine e.lines ls
    | .timed _ => false

/-- The number of pending entries of port p (R63). -/
def State.pendingCount (s : State) (p : PortId) : Nat :=
  (List.finRange 64).countP fun i => (s.entry i).any fun e => decide (e.port = p)

/-- The pending question (R63): any pending entry of any port exists. -/
def State.anyPending (s : State) : Bool := (List.finRange 64).any fun i => (s.entry i).isSome

/-- The entry is a PATTERN entry of the segment. -/
def Entry.names (e : Entry) (segment : Fin 8) : Bool :=
  match e.action with
  | .pattern segment' _ => decide (segment' = segment)
  | _ => false

/-- The reference question (R63): a pending PATTERN entry names the segment. -/
def State.segmentReferenced (s : State) (segment : Fin 8) : Bool :=
  (List.finRange 64).any fun i => (s.entry i).any fun e => e.names segment

/-- The ending of the entry of a slot (R38): the slot becomes FREE and its generation advances. -/
def Slot.ended (sl : Slot) : Slot := { generation := sl.generation + 1, entry := none }

def State.endEntry (s : State) (i : SlotId) : State := s.setSlot i (s.slot i).ended

/-- The schedule unit posts notices to the queue of port p, in order (R35, R79). -/
def State.postSchedule (s : State) (p : PortId) (ns : List Notice) : State :=
  s.updWires p fun w => { w with postsOfSchedule := w.postsOfSchedule ++ ns }

/-- The trigger unit posts a notice to the queue of port p (R107). -/
def State.postTrigger (s : State) (p : PortId) (n : Notice) : State :=
  s.updWires p fun w => { w with postsOfTrigger := w.postsOfTrigger ++ [n] }

/-- The handle of the entry in slot i (R36). -/
def State.handle (s : State) (i : SlotId) : Handle := ⟨i, (s.slot i).generation⟩

/-- The CANCELLED notice of an ending with a cause, or none when the notify mode is NONE (R38, R76). -/
def Entry.cancelledNotice (e : Entry) (h : Handle) (t : Tick) (remaining : Remaining) (cause : CancelCause) : List Notice :=
  if e.notify = .none then [] else [.cancelled h e.label t remaining cause]

/-- The edge selection admits the direction (R110). -/
def EdgeSelection.admits (sel : EdgeSelection) (d : Direction) : Bool :=
  match sel, d with
  | .rise, .rise => true
  | .fall, .fall => true
  | .either, _ => true
  | .rise, .fall => false
  | .fall, .rise => false

/-! ### The work of a tick (R3, R64, R115, R189) -/

/-- The entry in slot i has fallen due: it is TIMED with due tick now (R64). -/
def State.fallenDue (s : State) (i : SlotId) : Option Entry :=
  match s.entry i with
  | some e => if e.state = .timed s.schedule.now then some e else none
  | none => none

/-- The work of tick now is done (R3, R64, R115): no entry stands at distance 0, the end-of-tick report has been taken, and
no release request of now waits. -/
def State.tickWorkDone (s : State) : Bool :=
  ((List.finRange 64).all fun i => (s.fallenDue i).isNone) && s.schedule.endOfTickTaken &&
    s.releaseRequests.all fun r => decide (r.tick ≠ s.schedule.now)

/-! ### Cancellation requests (R62) -/

/-- A slot that the request matches is ended; any other stays. -/
def cancelSlot (f : Entry → Bool) (sl : Slot) : Slot := if sl.entry.any f then sl.ended else sl

/-- The notices of a cancellation request with a cause, in ascending slot order. -/
def State.cancelNotices (s : State) (f : Entry → Bool) (cause : CancelCause) : List Notice :=
  (List.finRange 64).flatMap fun i =>
    match s.entry i with
    | some e => if f e then e.cancelledNotice (s.handle i) s.schedule.now e.remaining cause else []
    | none => []

/-- The number of entries that a cancellation request ends. -/
def State.cancelCount (s : State) (f : Entry → Bool) : Nat :=
  (List.finRange 64).countP fun i => (s.entry i).any f

/-- Every entry of port p that satisfies a test ends in one event; with a cause, the notices are posted to p's queue. -/
def State.cancelEntries (s : State) (p : PortId) (f : Entry → Bool) (cause : Option CancelCause) : State :=
  let ended := { s with schedule := { s.schedule with slots := s.schedule.slots.map (cancelSlot f) } }
  match cause with
  | none => ended
  | some c => ended.postSchedule p (s.cancelNotices f c)

/-- The entry belongs to port p and its line set meets the set (R62). -/
def Entry.touches (p : PortId) (ls : LineSet) (e : Entry) : Bool := decide (e.port = p) && sharesLine e.lines ls

/-! ### Sessions -/

/-- The lapse count that a restart gives: the interval, or absent when the interval is 0 (R166, R167, R169). -/
def lapseFor (interval : BitVec 24) : Option Nat := if interval = 0 then none else some interval.toNat

/-- A STATUS of port p is being answered: its session controller takes no other event before it ends (R160, R167). -/
def State.asking (s : State) (p : PortId) : Bool := (s.port p).session.asking.isSome

/-- Nothing that holds a STATUS is under way (R167). -/
def Session.settled (se : Session) : Bool :=
  decide (se.departure = .none ∧ se.orphan = false ∧ se.parting = none)

end Sys2Proof.Machine
end

