-- ==== Sys2Proof/Machine/Operands.lean ====
section
/-! DEFINITION. The argument bytes of a frame, read as the fields of its command (R178, R181), and the ranges of the
field values (R44, R183). -/

namespace Sys2Proof.Machine

/-! ### Fields, most significant byte first (R178) -/

def word16 (a b : Byte) : BitVec 16 := a ++ b

def word24 (a b c : Byte) : BitVec 24 := (a ++ b) ++ c

def word32 (a b c d : Byte) : BitVec 32 := ((a ++ b) ++ c) ++ d

def word48 (a b c d e f : Byte) : BitVec 48 := ((((a ++ b) ++ c) ++ d) ++ e) ++ f

/-- The pattern words of a LOAD, two bytes each; a byte left over makes the length odd. -/
def patternWords : List Byte → Option (List LevelSet)
  | [] => some []
  | [_] => none
  | a :: b :: rest => (patternWords rest).map fun ws => word16 a b :: ws

/-! ### Enumerated fields (R178) -/

def policyOf (b : Byte) : Option Policy :=
  if b = 0 then some .hold else if b = 1 then some .freeze else if b = 2 then some .safe else none

def notifyOf (b : Byte) : Option Notify :=
  if b = 0 then some .none else if b = 1 then some .last else if b = 2 then some .each else none

def latePolicyOf (b : Byte) : Option LatePolicy :=
  if b = 0 then some .refuse else if b = 1 then some .fireNow else none

def edgeSelectionOf (b : Byte) : Option EdgeSelection :=
  if b = 0 then some .rise else if b = 1 then some .fall else if b = 2 then some .either else none

/-- A byte as a number below n: an input, a segment, a subscription or a slot number in range. -/
def below (n : Nat) (b : Byte) : Option (Fin n) := if h : b.toNat < n then some ⟨b.toNat, h⟩ else none

/-- A count argument, 0 for UNBOUNDED (R178). -/
def remainingOf (count : BitVec 16) : Remaining := if count = 0 then .unbounded else .counted count.toNat

/-! ### Command codes and argument layouts (R181) -/

/-- The command that a code and its argument bytes give: UNKNOWN for a code that names none of the 21 commands, BAD_ARG
for a body length other than the one the layout calls for. -/
def parseCommand (code : Byte) (args : List Byte) : Except Status Command :=
  if code = 0x01 then
    match args with
    | [] => .ok .status
    | _ => .error .badArg
  else if code = 0x02 then
    match args with
    | [a, b, c, d] => .ok (.heartbeat (word32 a b c d))
    | _ => .error .badArg
  else if code = 0x03 then
    match args with
    | [] => .ok .parting
    | _ => .error .badArg
  else if code = 0x08 then
    match args with
    | [m] => .ok (.fetch m)
    | _ => .error .badArg
  else if code = 0x10 then
    match args with
    | [] => .ok .time
    | _ => .error .badArg
  else if code = 0x11 then
    match args with
    | [a, b, c] => .ok (.prescale (word24 a b c))
    | _ => .error .badArg
  else if code = 0x20 then
    match args with
    | [a, b, c, d, policy] => .ok (.claim (word16 a b) (word16 c d) policy)
    | _ => .error .badArg
  else if code = 0x21 then
    match args with
    | [a, b] => .ok (.release (word16 a b))
    | _ => .error .badArg
  else if code = 0x22 then
    match args with
    | [a, b, c, d] => .ok (.drive (word16 a b) (word16 c d))
    | _ => .error .badArg
  else if code = 0x23 then
    match args with
    | [] => .ok .lines
    | _ => .error .badArg
  else if code = 0x30 then
    match args with
    | [mode, l1, l2, s1, s2, action, segment, position, c1, c2, i1, i2, i3, notify, m1, m2, m3, m4, m5, m6] =>
      .ok (.schedule
        { mode := mode, label := word16 l1 l2, lines := word16 s1 s2, action := action, segment := segment,
          position := position, count := word16 c1 c2, interval := word24 i1 i2 i3, notify := notify,
          area := word48 m1 m2 m3 m4 m5 m6 })
    | _ => .error .badArg
  else if code = 0x31 then
    match args with
    | [slot, generation] => .ok (.cancel slot generation)
    | _ => .error .badArg
  else if code = 0x32 then
    match args with
    | [slot, generation] => .ok (.query slot generation)
    | _ => .error .badArg
  else if code = 0x33 then
    match args with
    | [k] => .ok (.list k)
    | _ => .error .badArg
  else if code = 0x40 then
    match args with
    | [a, b] => .ok (.alloc (word16 a b))
    | _ => .error .badArg
  else if code = 0x41 then
    match args with
    | [segment] => .ok (.free segment)
    | _ => .error .badArg
  else if code = 0x42 then
    match args with
    | segment :: offset :: rest =>
      match patternWords rest with
      | some ws => .ok (.load segment offset ws)
      | none => .error .badArg
    | _ => .error .badArg
  else if code = 0x43 then
    match args with
    | [] => .ok .segments
    | _ => .error .badArg
  else if code = 0x50 then
    match args with
    | [input, selection, c1, c2] => .ok (.subscribe input selection (word16 c1 c2))
    | _ => .error .badArg
  else if code = 0x51 then
    match args with
    | [number] => .ok (.unsubscribe number)
    | _ => .error .badArg
  else if code = 0x52 then
    match args with
    | [] => .ok .inputs
    | _ => .error .badArg
  else .error .unknown

/-- The checks of R151 on the answer of the session controller, in their order: port state, command code, argument count. -/
def checkRequest (attached : Bool) (code : Byte) (args : List Byte) : Except Status Command :=
  if attached = false ∧ code ≠ 0x01 then .error .notReady else parseCommand code args

/-! ### The arguments of SCHEDULE (R44, R181) -/

/-- The mode of a SCHEDULE with the fields of its mode. -/
inductive Mode where
  | absolute (due : Tick) (policy : LatePolicy)
  | relative (offset : BitVec 32)
  | trigger (input : InputId) (selection : EdgeSelection) (offset : BitVec 24)
  deriving DecidableEq, Repr

/-- A SCHEDULE whose arguments are in range. -/
structure Plan where
  mode : Mode
  label : BitVec 16
  lines : LineSet
  action : Action
  remaining : Remaining
  interval : Option (BitVec 24)
  notify : Notify
  deriving DecidableEq, Repr

/-- Bytes 15 to 18 of the arguments: the due tick, or the RELATIVE offset. -/
def ScheduleArgs.areaTick (a : ScheduleArgs) : BitVec 32 := a.area.extractLsb' 16 32

/-- Byte 19: the late policy of ABSOLUTE mode. -/
def ScheduleArgs.areaLate (a : ScheduleArgs) : Byte := a.area.extractLsb' 8 8

/-- Byte 15: the input of TRIGGER mode. -/
def ScheduleArgs.areaInput (a : ScheduleArgs) : Byte := a.area.extractLsb' 40 8

/-- Byte 16: the edge selection of TRIGGER mode. -/
def ScheduleArgs.areaSelection (a : ScheduleArgs) : Byte := a.area.extractLsb' 32 8

/-- Bytes 17 to 19: the offset of TRIGGER mode. -/
def ScheduleArgs.areaOffset (a : ScheduleArgs) : BitVec 24 := a.area.extractLsb' 8 24

/-- The mode and its fields, when they are in range (R44). -/
def ScheduleArgs.modeOf (a : ScheduleArgs) : Option Mode :=
  if a.mode = 0 then (latePolicyOf a.areaLate).map fun policy => .absolute a.areaTick policy
  else if a.mode = 1 then
    if 0 < a.areaTick.toNat ∧ a.areaTick.toNat ≤ Config.horizon then some (.relative a.areaTick) else none
  else if a.mode = 2 then
    match below 4 a.areaInput, edgeSelectionOf a.areaSelection with
    | some input, some selection => if a.areaOffset = 0 then none else some (.trigger input selection a.areaOffset)
    | _, _ => none
  else none

/-- The action, when it and its segment number are in range (R44). -/
def ScheduleArgs.actionOf (a : ScheduleArgs) : Option Action :=
  if a.action = 0 then some .set
  else if a.action = 1 then some .clear
  else if a.action = 2 then some .toggle
  else if a.action = 3 then (below 8 a.segment).map fun segment => .pattern segment a.position.toNat
  else none

/-- The interval: absent when the count is 1 (R53); refused when the count is not 1 and the interval is 0 (R44). -/
def ScheduleArgs.intervalOf (a : ScheduleArgs) : Option (Option (BitVec 24)) :=
  if a.count = 1 then some none else if a.interval = 0 then none else some (some a.interval)

/-- The range checks of R44, all but the position of a PATTERN entry, which R45 judges. -/
def ScheduleArgs.plan (a : ScheduleArgs) : Option Plan :=
  match a.modeOf, a.actionOf, a.intervalOf, notifyOf a.notify with
  | some mode, some action, some interval, some notify =>
    if a.lines = 0 then none
    else some { mode := mode, label := a.label, lines := a.lines, action := action, remaining := remainingOf a.count,
                interval := interval, notify := notify }
  | _, _, _, _ => none

end Sys2Proof.Machine
end

