-- ==== Sys2Proof/Machine/Lines.lean ====
section
/-! DEFINITION. The line table: CLAIM, RELEASE, DRIVE and LINES (R17 to R34), the completion of a RELEASE (R25), and the
line half of orphan processing and of parting (R171, R172, R174). -/

namespace Sys2Proof.Machine

/-- The lines of the set owned by a port other than p (R18). -/
def State.conflicting (s : State) (p : PortId) (ls : LineSet) : LineSet :=
  lineSetOf fun i => hasLine ls i && (s.line i).owner.any fun q => decide (q ≠ p)

/-- The lines of the set that are unowned (R19). -/
def State.unowned (s : State) (ls : LineSet) : LineSet :=
  lineSetOf fun i => hasLine ls i && (s.line i).owner.isNone

/-- A line of an accepted CLAIM (R19): owned by the sender, with the new safe level and policy, at the level it had. -/
def Line.claimed (l : Line) (p : PortId) (safeLevel : Bool) (policy : Policy) : Line :=
  { l with owner := some p, safeLevel := safeLevel, policy := some policy }

/-- CLAIM taken by the line table (R17 to R19). -/
def State.takeClaim (s : State) (p : PortId) (ls : LineSet) (safeLevels : LevelSet) (policy : Byte) : State :=
  match policyOf policy with
  | none => s.finish p .badArg .empty
  | some pol =>
    if ls = 0 then s.finish p .badArg .empty
    else if s.conflicting p ls ≠ 0 then s.finish p .held (.held (s.conflicting p ls))
    else
      (s.updLines fun i l => if hasLine ls i then l.claimed p (hasLine safeLevels i) pol else l).finish p .ok
        (.claim (s.unowned ls))

/-- CLAIM (R17). -/
def execClaim (p : PortId) (s : State) : Host.Outcome State Fault Refusal :=
  match (s.port p).request with
  | some (.claim ls safeLevels policy) => .next (s.takeClaim p ls safeLevels policy)
  | _ => .next s

/-- The first event of an accepted RELEASE (R24): the lines are marked held for release, and the cancellation request
goes to the schedule unit. The request of the port is taken and not yet completed. -/
def State.startRelease (s : State) (p : PortId) (ls : LineSet) : State :=
  (s.updLines fun i l => if hasLine ls i then { l with held := true } else l).updPort p fun pt =>
    { pt with releasing := some ls, wires := { pt.wires with request := none, releaseRequest := some ls } }

/-- RELEASE taken by the line table (R23, R24). -/
def State.takeRelease (s : State) (p : PortId) (ls : LineSet) : State :=
  if ls = 0 then s.finish p .badArg .empty
  else if !s.ownsAll p ls then s.finish p .notOwner .empty
  else s.startRelease p ls

/-- RELEASE (R23, R24). -/
def execRelease (p : PortId) (s : State) : Host.Outcome State Fault Refusal :=
  match (s.port p).request with
  | some (.release ls) => .next (s.takeRelease p ls)
  | _ => .next s

/-- DRIVE taken by the line table (R31). -/
def State.takeDrive (s : State) (p : PortId) (ls : LineSet) (levels : LevelSet) : State :=
  if ls = 0 then s.finish p .badArg .empty
  else if !s.ownsAll p ls then s.finish p .notOwner .empty
  else
    (s.updLines fun i l => if hasLine ls i then { l with level := hasLine levels i } else l).finish p .ok .empty

/-- DRIVE (R31). -/
def execDrive (p : PortId) (s : State) : Host.Outcome State Fault Refusal :=
  match (s.port p).request with
  | some (.drive ls levels) => .next (s.takeDrive p ls levels)
  | _ => .next s

/-- LINES (R34). -/
def execLines (p : PortId) (s : State) : Host.Outcome State Fault Refusal :=
  match (s.port p).request with
  | some .lines => .next (s.finish p .ok (.lines s.lines))
  | _ => .next s

/-- The second event of a RELEASE (R25): the safe return of each line of the released set still owned by the sender and
still held for release, and the completion with the number of entries cancelled. -/
def State.completeRelease (s : State) (p : PortId) (cancelled : Nat) : State :=
  let ls := (s.port p).releasing.getD 0
  (s.returnLines fun i l => hasLine ls i && decide (l.owner = some p) && l.held).updPort p fun pt =>
    { pt with
      releasing := none
      wires := { pt.wires with toLink := pt.wires.toLink ++ [.completion ⟨.ok, .release cancelled⟩] } }

/-- RELEASE_COMPLETION (R25). The replies of the schedule unit are taken in the order it sent them (R16). -/
def execReleaseCompletion (p : PortId) (s : State) : Host.Outcome State Fault Refusal :=
  match s.scheduleToLines with
  | .release q cancelled :: rest =>
    if q = p then .next ({ s with scheduleToLines := rest }.completeRelease p cancelled) else .next s
  | _ => .next s

/-- The lines that port p owns under a policy (R171). -/
def State.linesUnder (s : State) (p : PortId) (policy : Policy) : LineSet :=
  lineSetOf fun i => decide ((s.line i).owner = some p) && decide ((s.line i).policy = some policy)

/-- The orphan step (R171): the request names the FREEZE and SAFE lines, and the SAFE set is kept with it. -/
def State.orphanStep (s : State) (p : PortId) : State :=
  s.updPort p fun pt =>
    { pt with
      orphanSafe := some (s.linesUnder p .safe)
      wires := { pt.wires with
        orphanRequest := some (s.linesUnder p .freeze ||| s.linesUnder p .safe) } }

/-- ORPHAN_START (R171). The requests of the session controller are taken in the order it sent them (R160). -/
def execOrphanStart (p : PortId) (s : State) : Host.Outcome State Fault Refusal :=
  match (s.port p).wires.toLines with
  | .orphanStart :: rest => .next ((s.updWires p fun w => { w with toLines := rest }).orphanStep p)
  | _ => .next s

/-- The orphan completion (R172): the safe return of each line of the kept SAFE set still owned by the port, and the
reply to the session controller. -/
def State.completeOrphan (s : State) (p : PortId) : State :=
  let ls := (s.port p).orphanSafe.getD 0
  (s.returnLines fun i l => hasLine ls i && decide (l.owner = some p)).updPort p fun pt =>
    { pt with orphanSafe := none, wires := { pt.wires with orphanReply := true } }

/-- ORPHAN_COMPLETION (R172). The replies of the schedule unit are taken in the order it sent them (R16). -/
def execOrphanCompletion (p : PortId) (s : State) : Host.Outcome State Fault Refusal :=
  match s.scheduleToLines with
  | .orphan q :: rest =>
    if q = p then .next ({ s with scheduleToLines := rest }.completeOrphan p) else .next s
  | _ => .next s

/-- The number of lines port p owns (R174). -/
def State.ownedCount (s : State) (p : PortId) : Nat :=
  (List.finRange 16).countP fun i => decide ((s.line i).owner = some p)

/-- The block that took the request of a parting step replies to the session controller with a count (R174). -/
def State.replyParting (s : State) (p : PortId) (count : Nat) : State :=
  s.updWires p fun w => { w with partingRequest := false, partingReply := some count }

/-- The request of a parting step is under way to its block. -/
def State.partingAt (s : State) (p : PortId) (step : PartingStep) : Bool :=
  (s.port p).wires.partingRequest && (s.port p).session.parting.any fun pa => decide (pa.step = step)

/-- LINE_STEP (R174, step 2): the safe return of every line owned by the port. The requests of the session controller are
taken in the order it sent them (R160). -/
def execLineStep (p : PortId) (s : State) : Host.Outcome State Fault Refusal :=
  match (s.port p).wires.toLines with
  | .lineStep :: rest =>
    .next ((s.returnLines fun _ l => decide (l.owner = some p)).updWires p fun w =>
      { w with toLines := rest, partingReply := some (s.ownedCount p) })
  | _ => .next s

end Sys2Proof.Machine
end

