-- ==== Sys2Proof/Machine/Flags.lean ====
section
/-! DEFINITION. The flags byte of a response (R150, R182), flag fields of records (R178), the attention output
(R136, R137), and the pins (R187). -/

namespace Sys2Proof.Machine

/-- A flag field: 01h set, 00h clear (R178). -/
def flagByte (b : Bool) : Byte := if b then 1 else 0

/-- The flags byte: PRIOR_LOST in the least significant bit, CMD_DISCARDED in the bit above it (R182). -/
def flagsByte (priorLost discarded : Bool) : Byte := flagByte priorLost ||| (flagByte discarded <<< 1)

/-- The queue holds an item not in flight; the marker counts as an item (R136). -/
def NoticeQueue.waits (q : NoticeQueue) : Bool :=
  q.items.any (fun it => !it.inFlight) || q.marker.any (fun m => !m.inFlight)

/-- The attention output of port p is asserted (R136, R137). -/
def State.attention (s : State) (p : PortId) : Bool :=
  match (s.port p).session.state with
  | .detached => false
  | .recovering _ => true
  | .attached => (s.port p).queue.waits

/-! ### Pins (R187): true for a high pin -/

/-- The pin of an output line carries the level of its record (R14). -/
def State.linePin (s : State) (i : Fin 16) : Bool := (s.line i).level

/-- The pin of a trigger input carries its level (R187). -/
def State.inputPin (s : State) (k : InputId) : Bool := s.inputPins.getLsbD k.val

/-- The SEL pin is low while SEL is asserted. -/
def State.selPin (s : State) (p : PortId) : Bool := !(s.port p).link.sel

/-- The LINKP pin is high while LINKP is present. -/
def State.linkpPin (s : State) (p : PortId) : Bool := (s.port p).link.linkp

/-- The RESET pin is low while RESET is asserted. -/
def State.resetPin (s : State) : Bool := !s.resetAsserted

/-- The ATTN pin is low while the attention output is asserted. -/
def State.attnPin (s : State) (p : PortId) : Bool := !s.attention p

end Sys2Proof.Machine
end

