-- ==== Sys2Proof/Machine/Frames.lean ====
section
/-! DEFINITION. The frames of the link: the check byte (R143), the judging of a command window (R141, R142), the layouts
of results and records (R178, R179, R184 to R186), and the response frame (R182). -/

namespace Sys2Proof.Machine

/-! ### CRC-8 (R143) -/

/-- One shift: the register moves toward its most significant end, and takes 07h when the bit shifted out was high. -/
def crcShift (r : Byte) : Byte := if r.msb then (r <<< 1) ^^^ 0x07 else r <<< 1

def crcByte (r b : Byte) : Byte :=
  crcShift (crcShift (crcShift (crcShift (crcShift (crcShift (crcShift (crcShift (r ^^^ b))))))))

def crc8 (bytes : List Byte) : Byte := bytes.foldl crcByte 0

/-! ### Bits and bytes (R138, R141) -/

/-- Eight bits sampled one after the other make a byte, the most significant bit first (R138). -/
def byteOfBits (b7 b6 b5 b4 b3 b2 b1 b0 : Bool) : Byte := BitVec.ofBoolListBE [b7, b6, b5, b4, b3, b2, b1, b0]

/-- The whole bytes of a run of sampled bits. -/
def wholeBytes : List Bool → List Byte
  | b7 :: b6 :: b5 :: b4 :: b3 :: b2 :: b1 :: b0 :: rest => byteOfBits b7 b6 b5 b4 b3 b2 b1 b0 :: wholeBytes rest
  | _ => []

/-- The number of bits that do not complete a byte (R141). -/
def strayBits (bits : List Bool) : Nat := bits.length % 8

/-! ### Command windows (R141, R142) -/

/-- What the close of a command window finds. -/
inductive Judgement where
  | ignored
  | badFrame (echo : Byte)
  | accepted (sequence code : Byte) (args : List Byte)
  deriving DecidableEq, Repr

/-- The judgement of R142. `bytes` are the whole bytes after the opener, of which 98 are kept (R141); the window counts
them all and its opener. The echo is the third whole byte of the window, or 0. -/
def judgeFrame (bytes : List Byte) (stray : Nat) : Judgement :=
  match bytes.take Config.keptBytes with
  | [] => if stray = 0 then .ignored else .badFrame 0
  | length :: rest =>
    let n := length.toNat
    if n < 2 ∨ 96 < n ∨ stray ≠ 0 ∨ bytes.length + 1 ≠ n + 3 then .badFrame (rest.headD 0)
    else
      match rest with
      | sequence :: code :: more =>
        let args := more.take (n - 2)
        if more[n - 2]? = some (crc8 (length :: sequence :: code :: args)) then .accepted sequence code args
        else .badFrame sequence
      | _ => .badFrame (rest.headD 0)

/-- The judgement of the bits sampled after the opener (R138, R141, R142). -/
def judgeBits (bits : List Bool) : Judgement := judgeFrame (wholeBytes bits) (strayBits bits)

/-! ### Fields as they travel, most significant byte first (R178) -/

def bytes16 (v : BitVec 16) : List Byte := [v.extractLsb' 8 8, v.extractLsb' 0 8]

def bytes24 (v : BitVec 24) : List Byte := [v.extractLsb' 16 8, v.extractLsb' 8 8, v.extractLsb' 0 8]

def bytes32 (v : BitVec 32) : List Byte :=
  [v.extractLsb' 24 8, v.extractLsb' 16 8, v.extractLsb' 8 8, v.extractLsb' 0 8]

def byteOf (n : Nat) : Byte := BitVec.ofNat 8 n

def nat16 (n : Nat) : List Byte := bytes16 (BitVec.ofNat 16 n)

def nat24 (n : Nat) : List Byte := bytes24 (BitVec.ofNat 24 n)

/-- FFh for an absent one-byte field (R179). -/
def absent : Byte := 0xFF

def Policy.byte : Policy → Byte
  | .hold => 0 | .freeze => 1 | .safe => 2

def Direction.byte : Direction → Byte
  | .rise => 0 | .fall => 1

def EdgeSelection.byte : EdgeSelection → Byte
  | .rise => 0 | .fall => 1 | .either => 2

def Notify.byte : Notify → Byte
  | .none => 0 | .last => 1 | .each => 2

def LatePolicy.byte : LatePolicy → Byte
  | .refuse => 0 | .fireNow => 1

def CancelCause.byte : CancelCause → Byte
  | .released => 0 | .orphaned => 1 | .collided => 2

def RecoveryCause.byte : RecoveryCause → Byte
  | .reset => 0 | .linkLoss => 1 | .lapse => 2

def ReportedState.byte : ReportedState → Byte
  | .timed => 0 | .waiting => 1 | .ended => 2

def PortState.byte : PortState → Byte
  | .detached => 0 | .recovering _ => 1 | .attached => 2

def PortState.causeByte : PortState → Byte
  | .recovering c => c.byte
  | _ => absent

/-- The status codes of R182. -/
def Status.byte : Status → Byte
  | .ok => 0x00 | .notReady => 0x01 | .badFrame => 0x02 | .unknown => 0x03 | .badArg => 0x04 | .held => 0x05
  | .notOwner => 0x06 | .full => 0x07 | .duplicate => 0x08 | .late => 0x09 | .notFound => 0x0A | .inUse => 0x0B
  | .noSpace => 0x0C

/-- A remaining count, 0 for UNBOUNDED (R178). -/
def Remaining.number : Remaining → Nat
  | .counted n => n
  | .unbounded => 0

def Handle.bytes (h : Handle) : List Byte := [byteOf h.slot.val, h.generation]

def Action.byte : Action → Byte
  | .set => 0 | .clear => 1 | .toggle => 2 | .pattern _ _ => 3

/-! ### Records (R185, R186) -/

/-- The notice record, 12 bytes (R185). -/
def Delivered.bytes : Delivered → List Byte
  | .notice (.fired h label tick remaining late) =>
    [0x01] ++ bytes32 tick ++ h.bytes ++ bytes16 label ++ nat16 remaining.number ++ [flagByte late]
  | .notice (.done h label tick late) => [0x02] ++ bytes32 tick ++ h.bytes ++ bytes16 label ++ [0, 0, flagByte late]
  | .notice (.cancelled h label tick remaining cause) =>
    [0x03] ++ bytes32 tick ++ h.bytes ++ bytes16 label ++ nat16 remaining.number ++ [cause.byte]
  | .notice (.captured tick input direction subscription final) =>
    [0x04] ++ bytes32 tick ++ [byteOf input.val, direction.byte, byteOf subscription.val, flagByte final, 0, 0, 0]
  | .overrun tick dropped => [0x05] ++ bytes32 tick ++ nat16 dropped ++ [0, 0, 0, 0, 0]

/-- The line record, 3 bytes (R186). R186 names the three low bits of the state byte; that its other five bits are sent clear
is the model's choice (DESIGN CHOICE, log 31). -/
def Line.bytes (l : Line) : List Byte :=
  [(l.owner.map fun p => byteOf p.val).getD absent, (l.policy.map Policy.byte).getD absent,
   flagByte l.level ||| (flagByte l.safeLevel <<< 1) ||| (flagByte l.held <<< 2)]

/-- The entry record of QUERY, 26 bytes (R186). -/
def Entry.bytes (h : Handle) (e : Entry) : List Byte :=
  h.bytes ++ bytes16 e.label ++ bytes16 e.lines ++ [e.action.byte] ++
  (match e.state with
   | .timed _ => [ReportedState.timed.byte]
   | .waiting _ _ _ _ => [ReportedState.waiting.byte]) ++
  (match e.action with
   | .pattern segment position => [byteOf segment.val, byteOf position]
   | _ => [absent, 0]) ++
  (match e.state with
   | .timed due => bytes32 due ++ [absent, absent, 0, 0, 0]
   | .waiting input selection offset _ => [0, 0, 0, 0, byteOf input.val, selection.byte] ++ bytes24 offset) ++
  nat16 e.remaining.number ++ bytes24 (e.interval.getD 0) ++ [e.notify.byte] ++
  [(e.latePolicy.map LatePolicy.byte).getD absent]

/-- The segment record, 5 bytes (R186). -/
def segmentBytes : Option Segment → List Byte
  | none => [0x00, absent, 0, 0, 0]
  | some g => [0x01, byteOf g.owner.val, byteOf g.base] ++ nat16 g.length

/-- The input record, 8 bytes (R186). R186 gives the level byte as FFh when absent; that a present level reads 01h for high
and 00h for low is the model's choice (DESIGN CHOICE, log 30). -/
def Input.bytes (r : Input) : List Byte :=
  [(r.sampled.map flagByte).getD absent] ++
  (match r.lastEdge with
   | some (t, d) => bytes32 t ++ [d.byte]
   | none => [0, 0, 0, 0, absent]) ++
  bytes16 r.edgeCount

/-- The subscription place, 4 bytes (R186). -/
def placeBytes : Option Subscription → List Byte
  | none => [absent, 0, 0, 0]
  | some sub => [byteOf sub.port.val, byteOf sub.input.val, sub.selection.byte, byteOf sub.remaining.number]

/-- The status record, 17 bytes (R186). -/
def StatusRecord.bytes (r : StatusRecord) : List Byte :=
  [r.previous.byte, r.previous.causeByte, PortState.attached.byte, byteOf r.notices, flagByte r.marker.isSome] ++
  nat16 (r.marker.getD 0) ++ bytes24 r.heartbeat ++ bytes16 r.ownedLines ++ [byteOf r.pendingEntries] ++
  bytes32 r.timebaseValue

/-- One item of a LIST response, 7 bytes (R184). -/
def ListItem.bytes (it : ListItem) : List Byte :=
  it.handle.bytes ++
  (match it.due with
   | some due => [ReportedState.timed.byte] ++ bytes32 due
   | none => [ReportedState.waiting.byte, 0, 0, 0, 0])

/-- The results of a response (R184), and those of HELD and LATE (R182). -/
def Result.bytes : Result → List Byte
  | .empty => []
  | .status record => record.bytes
  | .heartbeat previous => bytes24 previous
  | .parting nEntries nLines nSegments nSubscriptions =>
    [byteOf nEntries, byteOf nLines, byteOf nSegments, byteOf nSubscriptions]
  | .fetch items queued => [byteOf items.length, byteOf queued] ++ items.flatMap Delivered.bytes
  | .time value divisor => bytes32 value ++ nat24 divisor
  | .prescale previous value => nat24 previous ++ bytes32 value
  | .claim newlyOwned => bytes16 newlyOwned
  | .held conflicting => bytes16 conflicting
  | .release cancelled => [byteOf cancelled]
  | .lines records => records.toList.flatMap Line.bytes
  | .schedule handle state due => handle.bytes ++ [state.byte] ++ bytes32 (due.getD 0)
  | .late now => bytes32 now
  | .cancel remaining state => nat16 remaining.number ++ [state.byte]
  | .query handle entry => Entry.bytes handle entry
  | .list total items => [byteOf total, byteOf items.length] ++ items.flatMap ListItem.bytes
  | .alloc segment base => [byteOf segment.val, byteOf base]
  | .free base length => [byteOf base] ++ nat16 length
  | .segments records unallocated longestHole =>
    records.toList.flatMap segmentBytes ++ nat16 unallocated ++ nat16 longestHole
  | .subscribe number => [byteOf number.val]
  | .unsubscribe remaining => [byteOf remaining.number]
  | .inputs records places => records.toList.flatMap Input.bytes ++ places.toList.flatMap placeBytes

/-- The response holds at least one item of a FETCH (R150). -/
def Result.delivers : Result → Bool
  | .fetch items _ => !items.isEmpty
  | _ => false

/-- The response frame: length, sequence echo, status, flags, results, check byte (R150, R182). -/
def responseFrame (sequence : Byte) (flags : Byte) (c : Completion) : List Byte :=
  let counted := [byteOf (3 + c.result.bytes.length), sequence, c.status.byte, flags] ++ c.result.bytes
  counted ++ [crc8 counted]

end Sys2Proof.Machine
end

