-- ==== Sys2Proof/Machine/Links.lean ====
section
/-! DEFINITION. The port link controllers (R138 to R157): windows and openers, the close of a window, the response path,
handing, completions, withdrawals, the departure instruction, and the link pins. -/

namespace Sys2Proof.Machine

/-! ### The response path -/

/-- A response is assembled (R150): the flags are read from the marks, which are then clear. -/
def Link.assemble (l : Link) (sequence : Byte) (c : Completion) : Link :=
  { l with path := .ready (responseFrame sequence (flagsByte l.priorLost l.discardedFrame) c) c.result.delivers,
           priorLost := false, discardedFrame := false }

/-- The request is given up without a response: the path becomes IDLE and the marks are clear. -/
def Link.giveUp (l : Link) : Link := { l with path := .idle, priorLost := false, discardedFrame := false }

def Link.clearMarks (l : Link) : Link := { l with priorLost := false, discardedFrame := false }

/-- The abandonment of an unread response (R146): it is removed, the prior-lost mark is set, and a return request goes to
the queue when the response carried delivery. -/
def Port.abandon (pt : Port) : Port :=
  match pt.link.path with
  | .ready _ delivery =>
    { pt with
      link := { pt.link with path := .idle, priorLost := true }
      wires := if delivery then { pt.wires with linkToQueue := pt.wires.linkToQueue ++ [.giveBack] } else pt.wires }
  | _ => pt

/-! ### LINKP (R139) -/

/-- The rising edge that carries the last bit of the check byte falls within the window (R149, R182): place m + 4 is the
opener, the READY marker and the frame. -/
def readComplete (frame : List Byte) (edges : Nat) : Bool := decide (8 * (frame.length + 2) ≤ edges)

/-- The read of a response in SENDING, when its window has closed, by SEL or by the fall of LINKP (R149): complete, with an
acknowledgement when it carried delivery, or partial, the response standing READY unchanged. -/
def Port.closeResponse (pt : Port) (edges : Nat) : Port :=
  match pt.link.path with
  | .sending frame delivery =>
    if readComplete frame edges then
      { pt with
        link := { pt.link with path := .idle }
        wires := if delivery then { pt.wires with linkToQueue := pt.wires.linkToQueue ++ [.acknowledge] } else pt.wires }
    else { pt with link := { pt.link with path := .ready frame delivery } }
  | _ => pt

/-- LINKP falls (R139): the window ends; no frame is accepted and no BAD_FRAME made; a read in progress stands by R149
(DEDUCED, log 10). -/
def Port.loseLink (pt : Port) (edges : Nat) : Port :=
  let pt := pt.closeResponse edges
  { pt with link := { pt.link with linkp := false, window := .closed } }

/-- LINKP_FALL (R139): no report is made while RESET is asserted (R156). -/
def execLinkpFall (p : LinkFall) (s : State) : Host.Outcome State Fault Refusal :=
  if !(s.port p.port).link.linkp then .next s
  else if s.resetAsserted then .next (s.updPort p.port fun pt => pt.loseLink p.edges)
  else
    .next ((s.updPort p.port fun pt => pt.loseLink p.edges).updWires p.port fun w =>
      { w with linkpReports := w.linkpReports ++ [.falling] })

/-- LINKP_RISE (R139): no report is made while RESET is asserted (R156). -/
def execLinkpRise (p : PortId) (s : State) : Host.Outcome State Fault Refusal :=
  if (s.port p).link.linkp then .next s
  else if s.resetAsserted then .next (s.updLink p fun l => { l with linkp := true })
  else
    .next ((s.updLink p fun l => { l with linkp := true }).updWires p fun w =>
      { w with linkpReports := w.linkpReports ++ [.rising] })

/-! ### Windows (R140, R148, R149) -/

/-- WINDOW_OPEN (R140): SEL is asserted; a window opens while LINKP is present and RESET is released (R139, R156). -/
def execWindowOpen (p : PortId) (s : State) : Host.Outcome State Fault Refusal :=
  if (s.port p).link.sel then .next s
  else if (s.port p).link.linkp = true ∧ s.resetAsserted = false then
    .next (s.updLink p fun l => { l with sel := true, window := .opening })
  else .next (s.updLink p fun l => { l with sel := true })

/-- The opener of a response window is judged (R148): what the window sends is fixed from the state of the path. -/
def Link.answerWindow (l : Link) : Link :=
  match l.path with
  | .idle => { l with window := .response [Config.noneMarker] }
  | .pending _ _ => { l with window := .response [Config.busyMarker] }
  | .ready frame delivery =>
    { l with window := .response (Config.readyMarker :: frame), path := .sending frame delivery }
  | .sending frame _ => { l with window := .response (Config.readyMarker :: frame) }

/-- OPENER (R140, R180): the first byte is judged when its eighth bit has been sampled. -/
def execOpener (p : PortId) (bits : Vector Bool 8) (s : State) : Host.Outcome State Fault Refusal :=
  let byte := byteOfBits bits[0] bits[1] bits[2] bits[3] bits[4] bits[5] bits[6] bits[7]
  if (s.port p).link.window = .opening then
    if byte = Config.commandOpener then .next (s.updLink p fun l => { l with window := .command })
    else if byte = Config.responseOpener then .next (s.updLink p Link.answerWindow)
    else .next (s.updLink p fun l => { l with window := .ignored })
  else .next s

/-- The byte that the part sends at a place of a window, counted from 1 (R138, R148, R180): SDO is low during the opener and
for the whole of a window that sends nothing; filler, 00h, follows what a response window sends. -/
def Window.byteAt (w : Window) (place : Nat) : Byte :=
  match w with
  | .response sent => if place < 2 then 0 else sent.getD (place - 2) 0
  | _ => 0

/-- The level of SDO in a window after the falling edge that follows its n-th rising edge of SCLK (R138): the bit that
rising edge n + 1 carries, each byte most significant bit first. -/
def Window.sdo (w : Window) (n : Nat) : Bool := (w.byteAt (n / 8 + 1)).getLsbD (7 - n % 8)

/-- The SDO pin of port p after n rising edges in the window now open (R138, R139, R156): low while none is open, so while
SEL is deasserted, LINKP absent or RESET asserted. -/
def State.sdoPin (s : State) (p : PortId) (n : Nat) : Bool := (s.port p).link.window.sdo n

/-- SEL is deasserted: no window is open. -/
def Link.deselect (l : Link) : Link := { l with sel := false, window := .closed }

/-- A frame is accepted in IDLE (R145, R151): the path becomes PENDING and the acceptance report is sent. -/
def Port.accept (pt : Port) (sequence code : Byte) (args : List Byte) : Port :=
  { pt with
    link := { pt.link with path := .pending { sequence := sequence, code := code, args := args, block := none } false }
    wires := { pt.wires with toSession := pt.wires.toSession ++ [.acceptance code] } }

/-- The BAD_FRAME response is assembled in IDLE (R142, R145, R150). -/
def Port.refuseFrame (pt : Port) (echo : Byte) : Port :=
  { pt with link := pt.link.assemble echo ⟨.badFrame, .empty⟩ }

/-- A frame that closes while the path is PENDING is discarded (R147, R154). -/
def Port.discardFrame (pt : Port) (discard : Bool) : Port :=
  if discard then pt else { pt with link := { pt.link with discardedFrame := true } }

/-- The close of a command window with a judgement, by the state of the path (R142, R145). SENDING does not meet a command
window. -/
def Port.closeCommand (pt : Port) (j : Judgement) : Port :=
  match j with
  | .ignored => pt
  | .badFrame echo =>
    match pt.link.path with
    | .idle => pt.refuseFrame echo
    | .pending _ discard => pt.discardFrame discard
    | .ready _ _ => pt.abandon.refuseFrame echo
    | .sending _ _ => pt
  | .accepted sequence code args =>
    match pt.link.path with
    | .idle => pt.accept sequence code args
    | .pending _ discard => pt.discardFrame discard
    | .ready _ _ => pt.abandon.accept sequence code args
    | .sending _ _ => pt

/-- COMMAND_WINDOW_CLOSE (R141, R142, R145): SEL is deasserted at the end of a command window. A window that is ignored or
whose opener is not complete closes without effect (R140); with no window open SEL is deasserted and nothing else. -/
def execCommandWindowClose (p : PortId) (bits stray : List Bool) (s : State) : Host.Outcome State Fault Refusal :=
  if !(s.port p).link.sel then .next s
  else
    match (s.port p).link.window with
    | .command =>
      .next ((s.updLink p Link.deselect).updPort p fun pt => pt.closeCommand (judgeBits (bits ++ stray)))
    | .response _ => .next s
    | _ => .next (s.updLink p Link.deselect)

/-- RESPONSE_WINDOW_CLOSE (R149): SEL is deasserted at the end of a response window. A NONE or BUSY window changes no
state (R148); a window that is ignored or whose opener is not complete closes without effect (R140). -/
def execResponseWindowClose (p : PortId) (edges : Nat) (s : State) : Host.Outcome State Fault Refusal :=
  if !(s.port p).link.sel then .next s
  else
    match (s.port p).link.window with
    | .response _ => .next ((s.updLink p Link.deselect).updPort p fun pt => pt.closeResponse edges)
    | .command => .next s
    | _ => .next (s.updLink p Link.deselect)

/-! ### Handing requests (R151, R152) -/

/-- A reply that answers the withdrawal of an earlier request. -/
def ToLink.retired : ToLink → ToLink
  | .taken _ => .taken false
  | m => m

def FromSession.retired : FromSession → FromSession
  | .reply m => .reply m.retired
  | m => m

/-- The withdrawals under way, and the "taken" replies to them, were sent before the request now handed: they cannot mean
it (log 13), and the request reaches a block behind the withdrawals sent to that block (R152, `Port.request`). -/
def Wires.retireWithdrawals (w : Wires) : Wires :=
  { w with
    withdrawals := w.withdrawals.map fun x => { x with live := false }
    toLink := w.toLink.map ToLink.retired
    fromSession := w.fromSession.map FromSession.retired }

/-- A request that passes its checks is handed to its owning block and waits there (R152, R159). -/
def Port.hand (pt : Port) (r : Request) (c : Command) : Port :=
  let link := { pt.link with path := .pending { r with block := some c.block } false, replyDue := false }
  if c.block = .session then
    { pt with link := link, session := { pt.session with waiting := some ⟨c, false⟩ }, wires := pt.wires.retireWithdrawals }
  else { pt with link := link, wires := { pt.wires.retireWithdrawals with request := some c } }

/-- The answer of the session controller on a PENDING request that is not yet handed (R151, R164). -/
def Port.takeAnswer (pt : Port) (attached : Bool) : Port :=
  match pt.link.path with
  | .pending r discard =>
    if r.block.isSome then pt
    else if discard then { pt with link := pt.link.giveUp }
    else
      match checkRequest attached r.code r.args with
      | .error status => { pt with link := pt.link.assemble r.sequence ⟨status, .empty⟩ }
      | .ok c => pt.hand r c
  | _ => pt

/-- ACCEPTANCE_ANSWER (R151). The messages of the session controller are taken in the order sent (R160). -/
def execAcceptanceAnswer (p : PortId) (s : State) : Host.Outcome State Fault Refusal :=
  match (s.port p).wires.fromSession with
  | .answer attached :: rest =>
    .next ((s.updWires p fun w => { w with fromSession := rest }).updPort p fun pt => pt.takeAnswer attached)
  | _ => .next s

/-! ### Completions and withdrawals (R150, R153, R164) -/

/-- The settlement report is sent (R164). -/
def Port.settle (pt : Port) : Port :=
  { pt with wires := { pt.wires with toSession := pt.wires.toSession ++ [.settlement] } }

/-- A completion taken (R150): assembled, or dropped when the discard mark is set. The completion of a FETCH that a
departure found handed settles that departure (R164). -/
def Port.takeCompletion (pt : Port) (c : Completion) : Port :=
  match pt.link.path with
  | .pending r discard =>
    if discard then
      let idle := { pt with link := pt.link.giveUp }
      if r.block = some .noticeQueue then idle.settle else idle
    else { pt with link := pt.link.assemble r.sequence c }
  | _ => pt

/-- The request that a withdrawal means still waits at its block, or was removed from the session controller by the
departure event (R153, R164). -/
def Port.stillWaits (pt : Port) (w : Withdrawal) : Bool :=
  w.live &&
    (if w.block = .session then pt.session.waiting.isSome || pt.session.removed
     else pt.wires.request.any fun c => decide (c.block = w.block))

/-- The block sends its answer to a withdrawal, the session controller behind what it sent before (R153, R160). -/
def Wires.answerWithdrawal (w : Wires) (block : Block) (m : ToLink) : Wires :=
  if block = .session then { w with fromSession := w.fromSession ++ [.reply m] } else { w with toLink := w.toLink ++ [m] }

/-- A withdrawal taken by its block (R153): a request still waiting is removed without effect, and the block replies
"withdrawn" or "taken". -/
def Port.withdraw (pt : Port) (w : Withdrawal) : Port :=
  if pt.stillWaits w then
    let answered := pt.wires.answerWithdrawal w.block .withdrawn
    if w.block = .session then
      { pt with session := { pt.session with waiting := none, removed := false }, wires := answered }
    else { pt with wires := { answered with request := none } }
  else { pt with wires := pt.wires.answerWithdrawal w.block (.taken w.live) }

/-- WITHDRAWAL_REQUEST (R153, R164): the block takes the oldest withdrawal of port p under way to it; a session controller
that is answering a STATUS takes none (R160). -/
def execWithdrawalRequest (p : PortId) (block : Block) (s : State) : Host.Outcome State Fault Refusal :=
  match (s.port p).wires.withdrawals.find? fun w => decide (w.block = block) with
  | some w =>
    if block = .session ∧ s.asking p = true then .next s
    else .next ((s.updWires p fun x => { x with withdrawals := x.withdrawals.erase w }).updPort p fun pt => pt.withdraw w)
  | none => .next s

/-- A "withdrawn" reply (R153): with the discard mark set the request is removed and the path becomes IDLE. -/
def Port.takeWithdrawn (pt : Port) : Port :=
  match pt.link.path with
  | .pending _ true => { pt with link := pt.link.giveUp }
  | _ => pt

/-- A reply to a withdrawal settles its departure in the event in which it is taken (R164). The reply to the withdrawal of
the request the path holds is due no more. -/
def Port.replySettles (pt : Port) (live : Bool) : Port :=
  { pt with link := { pt.link with replyDue := pt.link.replyDue && !live } }.settle

/-- A FETCH answered as withdrawn (R129, R153, R164): no response is made. Without the discard mark the departure
instruction has still to come, and it settles the departure (log 14). R153 clears the prior-lost and discarded-frame
marks with the discard mark set and is silent otherwise: here they stand until that instruction (DESIGN CHOICE, log
29). -/
def Port.takeFetchWithdrawn (pt : Port) : Port :=
  match pt.link.path with
  | .pending _ true => { pt with link := pt.link.giveUp }.settle
  | .pending _ false => { pt with link := { pt.link with path := .idle } }
  | _ => pt

/-- A completion or a reply taken by the port link controller (R150, R153, R164). -/
def Port.takeMessage (pt : Port) : ToLink → Port
  | .completion c => pt.takeCompletion c
  | .withdrawn => pt.takeWithdrawn.replySettles true
  | .taken live => pt.replySettles live
  | .fetchWithdrawn => pt.takeFetchWithdrawn

def ToLink.isCompletion : ToLink → Bool
  | .completion _ => true
  | _ => false

/-- The completions and replies that can be taken next, each with the wires it leaves: the oldest from the other blocks,
then the one that stands first among the messages of the session controller (R160). -/
def Wires.offers (w : Wires) : List (ToLink × Wires) :=
  (match w.toLink with
   | m :: rest => [(m, { w with toLink := rest })]
   | [] => []) ++
  (match w.fromSession with
   | .reply m :: rest => [(m, { w with fromSession := rest })]
   | _ => [])

/-- COMPLETION (R150). -/
def execCompletion (p : PortId) (s : State) : Host.Outcome State Fault Refusal :=
  match (s.port p).wires.offers.find? fun x => x.1.isCompletion with
  | some (m, w) => .next (s.updPort p fun pt => { pt with wires := w }.takeMessage m)
  | none => .next s

/-- WITHDRAWAL_REPLY (R153, R164): a "withdrawn" or "taken" reply, or a FETCH answered as withdrawn. Where one from another
block and one from the session controller can both be taken, that of the other block is taken first (log 12). -/
def execWithdrawalReply (p : PortId) (s : State) : Host.Outcome State Fault Refusal :=
  match (s.port p).wires.offers.find? fun x => !x.1.isCompletion with
  | some (m, w) => .next (s.updPort p fun pt => { pt with wires := w }.takeMessage m)
  | none => .next s

/-! ### The departure instruction (R154, R164) -/

/-- A withdrawal request is sent to the block that holds the request (R153). -/
def Port.sendWithdrawal (pt : Port) (block : Block) : Port :=
  { pt with
    link := { pt.link with replyDue := true }
    wires := { pt.wires with withdrawals := pt.wires.withdrawals ++ [⟨block, true⟩] } }

/-- The departure instruction on a request handed to a block (R154, R164): the discard mark is set and the other marks are
cleared. The first such instruction sends a withdrawal, whose reply settles it, unless the request is a FETCH, which its
queue withdraws and whose completion or answer settles it. A later one is settled with the first, or at once when the
first has been settled (log 17). -/
def Port.departHanded (pt : Port) (r : Request) (block : Block) (discard : Bool) : Port :=
  let marked := { pt with link := { pt.link.clearMarks with path := .pending r true } }
  if block = .noticeQueue then marked
  else if !discard then marked.sendWithdrawal block
  else if pt.link.replyDue then marked
  else marked.settle

/-- A window that was sending a removed response sends filler from now on (R154). -/
def Window.silenced (w : Window) : Window :=
  match w with
  | .response _ => .response []
  | _ => w

/-- The departure instruction taken, by the state of the path (R154): when no request is handed it is settled at once
(R164). -/
def Port.takeDeparture (pt : Port) (toDetached : Bool) : Port :=
  match pt.link.path with
  | .idle => { pt with link := pt.link.clearMarks }.settle
  | .pending r discard =>
    match r.block with
    | none => { pt with link := { pt.link.clearMarks with path := .pending r (discard || toDetached) } }.settle
    | some block => pt.departHanded r block discard
  | .ready _ _ => { pt with link := pt.link.giveUp }.settle
  | .sending _ _ => { pt with link := { pt.link.giveUp with window := pt.link.window.silenced } }.settle

/-- DEPARTURE_INSTRUCTION (R154). The messages of the session controller are taken in the order sent (R160). -/
def execDepartureInstruction (p : PortId) (s : State) : Host.Outcome State Fault Refusal :=
  match (s.port p).wires.fromSession with
  | .departure toDetached :: rest =>
    .next ((s.updWires p fun w => { w with fromSession := rest }).updPort p fun pt => pt.takeDeparture toDetached)
  | _ => .next s

end Sys2Proof.Machine
end

