-- ==== Sys2Proof/Machine/Patterns.lean ====
section
/-! DEFINITION. The pattern store: ALLOC, FREE, LOAD and SEGMENTS (R91 to R100), the word question (R101) and the free
step of parting (R102). -/

namespace Sys2Proof.Machine

/-! ### Words and holes -/

/-- A segment covers word w (R89). -/
def Segment.covers (g : Segment) (w : Nat) : Bool := decide (g.base ≤ w ∧ w < g.base + g.length)

/-- Word w is allocated. -/
def PatternStore.covered (st : PatternStore) (w : Nat) : Bool := st.segments.any fun o => o.any fun g => g.covers w

/-- The words b to b + n - 1 lie within the store and are unallocated (R92). -/
def PatternStore.fits (st : PatternStore) (n b : Nat) : Bool :=
  decide (b + n ≤ 256) && st.segments.all fun o => o.all fun g => decide (b + n ≤ g.base ∨ g.base + g.length ≤ b)

/-- First fit (R92): the lowest base at which n words fit. -/
def PatternStore.firstFit (st : PatternStore) (n : Nat) : Option Nat := (List.range 256).find? fun b => st.fits n b

/-- The number of unallocated words (R100). -/
def PatternStore.unallocated (st : PatternStore) : Nat := (List.range 256).countP fun w => !st.covered w

/-- The run of unallocated words that ends at each word, and the longest run so far. -/
def PatternStore.holeStep (st : PatternStore) (acc : Nat × Nat) (w : Nat) : Nat × Nat :=
  if st.covered w then (0, acc.2) else (acc.1 + 1, max acc.2 (acc.1 + 1))

/-- The length of the longest hole (R89, R100). -/
def PatternStore.longestHole (st : PatternStore) : Nat := ((List.range 256).foldl st.holeStep (0, 0)).2

/-- The lowest-numbered free record (R92). -/
def PatternStore.freeRecord (st : PatternStore) : Option (Fin 8) :=
  (List.finRange 8).find? fun k => (st.segments[k]).isNone

/-- The word question (R101): the levels of the store word base + position. A free segment or a position beyond the
segment gives the free value of log 19. -/
def PatternStore.word (st : PatternStore) (segment : Fin 8) (position : Nat) : LevelSet :=
  match st.segments[segment] with
  | some g =>
    if h : position < g.length ∧ g.base + position < 256 then st.words[g.base + position]'h.2
    else Config.wordOutsideSegment segment.val position
  | none => Config.wordOutsideSegment segment.val position

/-! ### Commands -/

/-- ALLOC taken by the pattern store (R91, R92). -/
def State.takeAlloc (s : State) (p : PortId) (length : BitVec 16) : State :=
  let n := length.toNat
  if n = 0 ∨ 256 < n then s.finish p .badArg .empty
  else
    match s.store.freeRecord with
    | none => s.finish p .full .empty
    | some k =>
      match s.store.firstFit n with
      | none => s.finish p .noSpace .empty
      | some b =>
        { s with store := { s.store with segments := s.store.segments.set k (some ⟨p, b, n⟩) } }.finish p .ok (.alloc k b)

/-- ALLOC (R91). -/
def execAlloc (p : PortId) (s : State) : Host.Outcome State Fault Refusal :=
  match (s.port p).request with
  | some (.alloc length) => .next (s.takeAlloc p length)
  | _ => .next s

/-- The segment record k, when it is allocated to port p. -/
def State.segmentOf (s : State) (p : PortId) (k : Fin 8) : Option Segment :=
  match s.store.segments[k] with
  | some g => if g.owner = p then some g else none
  | none => none

/-- FREE taken by the pattern store (R94, R95). -/
def State.takeFree (s : State) (p : PortId) (segment : Byte) : State :=
  match below 8 segment with
  | none => s.finish p .badArg .empty
  | some k =>
    match s.segmentOf p k with
    | none => s.finish p .notOwner .empty
    | some g =>
      if s.segmentReferenced k then s.finish p .inUse .empty
      else
        { s with store := { s.store with segments := s.store.segments.set k none } }.finish p .ok (.free g.base g.length)

/-- FREE (R94). -/
def execFree (p : PortId) (s : State) : Host.Outcome State Fault Refusal :=
  match (s.port p).request with
  | some (.free segment) => .next (s.takeFree p segment)
  | _ => .next s

/-- Words written one after the other from a word number on (R98). -/
def writeWords (words : Vector LevelSet 256) (start : Nat) : List LevelSet → Vector LevelSet 256
  | [] => words
  | w :: rest => writeWords (words.setIfInBounds start w) (start + 1) rest

/-- LOAD taken by the pattern store (R97, R98). A free record is bounded by 256. -/
def State.takeLoad (s : State) (p : PortId) (segment offset : Byte) (ws : List LevelSet) : State :=
  match below 8 segment with
  | none => s.finish p .badArg .empty
  | some k =>
    let bound := (s.store.segments[k].map Segment.length).getD 256
    if ws.length = 0 ∨ 32 < ws.length ∨ bound < offset.toNat + ws.length then s.finish p .badArg .empty
    else
      match s.segmentOf p k with
      | none => s.finish p .notOwner .empty
      | some g =>
        { s with store := { s.store with words := writeWords s.store.words (g.base + offset.toNat) ws } }.finish p .ok
          .empty

/-- LOAD (R97). -/
def execLoad (p : PortId) (s : State) : Host.Outcome State Fault Refusal :=
  match (s.port p).request with
  | some (.load segment offset ws) => .next (s.takeLoad p segment offset ws)
  | _ => .next s

/-- SEGMENTS (R100). -/
def execSegments (p : PortId) (s : State) : Host.Outcome State Fault Refusal :=
  match (s.port p).request with
  | some .segments => .next (s.finish p .ok (.segments s.store.segments s.store.unallocated s.store.longestHole))
  | _ => .next s

/-- The records allocated to port p become free (R102). -/
def PatternStore.freeAllOf (st : PatternStore) (p : PortId) : PatternStore :=
  { st with segments := st.segments.map fun o => if o.any (fun g => decide (g.owner = p)) then none else o }

/-- The number of records allocated to port p. -/
def PatternStore.countOf (st : PatternStore) (p : PortId) : Nat :=
  st.segments.toList.countP fun o => o.any fun g => decide (g.owner = p)

/-- FREE_STEP (R102, R174, step 3). -/
def execFreeStep (p : PortId) (s : State) : Host.Outcome State Fault Refusal :=
  if s.partingAt p .segments then
    .next ({ s with store := s.store.freeAllOf p }.replyParting p (s.store.countOf p))
  else .next s

end Sys2Proof.Machine
end

