-- ==== Sys2Proof/Machine/Queues.lean ====
section
/-! DEFINITION. The notice queues (R124 to R134): POST, FETCH, acknowledgement and return, the attachment and departure
reports, and the flush. -/

namespace Sys2Proof.Machine

/-! ### Arrival (R126, R127) -/

/-- The tick field of a notice (R123). -/
def Notice.tick : Notice → Tick
  | .fired _ _ t _ _ => t
  | .done _ _ t _ => t
  | .cancelled _ _ t _ _ => t
  | .captured t _ _ _ _ => t

/-- A count of the marker raised by one, stopping at 65535 (R127). -/
def raised (n : Nat) : Nat := min (n + 1) Config.countLimit

/-- A notice is dropped while the marker is present (R127). -/
def Marker.drop (m : Marker) (t : Tick) : Marker :=
  if m.inFlight then
    match m.later with
    | some (t', n) => { m with later := some (t', raised n) }
    | none => { m with later := some (t, 1) }
  else { m with dropped := raised m.dropped }

/-- The queue takes a post: the notice is kept at the tail, or dropped into the marker (R126). -/
def NoticeQueue.post (q : NoticeQueue) (n : Notice) : NoticeQueue :=
  match q.marker with
  | some m => { q with marker := some (m.drop n.tick) }
  | none =>
    if q.items.length < Config.queueCapacity then { q with items := q.items ++ [⟨n, false⟩] }
    else { q with marker := some { tick := n.tick, dropped := 1, inFlight := false, later := none } }

/-- POST (R125, R126): the oldest post under way from the source. -/
def execPost (p : PortId) (source : NoticeSource) (s : State) : Host.Outcome State Fault Refusal :=
  match source with
  | .scheduleUnit =>
    match (s.port p).wires.postsOfSchedule with
    | n :: rest => .next ((s.updWires p fun w => { w with postsOfSchedule := rest }).updQueue p fun q => q.post n)
    | [] => .next s
  | .triggerUnit =>
    match (s.port p).wires.postsOfTrigger with
    | n :: rest => .next ((s.updWires p fun w => { w with postsOfTrigger := rest }).updQueue p fun q => q.post n)
    | [] => .next s

/-! ### Delivery (R128) -/

/-- The number of items the queue holds, the marker included. -/
def NoticeQueue.size (q : NoticeQueue) : Nat := q.items.length + if q.marker.isSome then 1 else 0

/-- The marker is reached by a delivery of n items. -/
def NoticeQueue.reaches (q : NoticeQueue) (n : Nat) : Bool := decide (q.items.length < n)

/-- The first n items as delivered, the marker last (R128). -/
def NoticeQueue.delivered (q : NoticeQueue) (n : Nat) : List Delivered :=
  (q.items.take n).map (fun it => .notice it.notice) ++
    match q.marker with
    | some m => if q.reaches n then [.overrun m.tick m.dropped] else []
    | none => []

/-- The first n items are marked in flight (R128). -/
def NoticeQueue.mark (q : NoticeQueue) (n : Nat) : NoticeQueue :=
  { q with
    items := (q.items.take n).map (fun it => { it with inFlight := true }) ++ q.items.drop n
    marker := q.marker.map fun m => if q.reaches n then { m with inFlight := true } else m }

/-- FETCH taken by the queue (R128, R129): withdrawn when the attached record is no. -/
def State.takeFetch (s : State) (p : PortId) (maximum : Byte) : State :=
  let q := (s.port p).queue
  if !q.attached then s.updWires p fun w => { w with request := none, toLink := w.toLink ++ [.fetchWithdrawn] }
  else if maximum = 0 ∨ 7 < maximum.toNat then s.finish p .badArg .empty
  else
    let n := min maximum.toNat q.size
    (s.updQueue p fun q => q.mark n).finish p .ok (.fetch (q.delivered n) (q.size - n))

/-- FETCH (R128). The acknowledgement and return requests that the port link controller sent before it are taken first
(R128, R146, R152). -/
def execFetch (p : PortId) (s : State) : Host.Outcome State Fault Refusal :=
  match (s.port p).request with
  | some (.fetch maximum) => if (s.port p).wires.linkToQueue = [] then .next (s.takeFetch p maximum) else .next s
  | _ => .next s

/-! ### Acknowledgement and return (R130, R131) -/

/-- The acknowledgement: the items in flight are removed, and a marker in flight with a later part becomes that part
(R127, R130). -/
def NoticeQueue.acknowledge (q : NoticeQueue) : NoticeQueue :=
  { q with
    items := q.items.filter fun it => !it.inFlight
    marker := q.marker.bind fun m =>
      if m.inFlight then m.later.map fun l => { tick := l.1, dropped := l.2, inFlight := false, later := none }
      else some m }

/-- A marker in flight is folded: the later count joins the dropped count, stopping at 65535 (R127). -/
def Marker.fold (m : Marker) : Marker :=
  if m.inFlight then
    match m.later with
    | some (_, n) => { m with dropped := min (m.dropped + n) Config.countLimit, inFlight := false, later := none }
    | none => { m with inFlight := false }
  else m

/-- The return: every item in flight loses the mark, keeping its place (R131). -/
def NoticeQueue.giveBack (q : NoticeQueue) : NoticeQueue :=
  { q with items := q.items.map (fun it => { it with inFlight := false }), marker := q.marker.map Marker.fold }

/-- ACKNOWLEDGEMENT (R130). -/
def execAcknowledgement (p : PortId) (s : State) : Host.Outcome State Fault Refusal :=
  match (s.port p).wires.linkToQueue with
  | .acknowledge :: rest =>
    .next ((s.updWires p fun w => { w with linkToQueue := rest }).updQueue p fun q => q.acknowledge)
  | _ => .next s

/-- RETURN_REQUEST (R131). -/
def execReturnRequest (p : PortId) (s : State) : Host.Outcome State Fault Refusal :=
  match (s.port p).wires.linkToQueue with
  | .giveBack :: rest =>
    .next ((s.updWires p fun w => { w with linkToQueue := rest }).updQueue p fun q => q.giveBack)
  | _ => .next s

/-! ### Reports of the session controller (R129, R132, R134) -/

/-- DEPARTURE_REPORT (R129, R132): the attached record becomes no and the items in flight are returned, in one event. -/
def execDepartureReport (p : PortId) (s : State) : Host.Outcome State Fault Refusal :=
  match (s.port p).wires.toQueue with
  | .departure :: rest =>
    .next ((s.updWires p fun w => { w with toQueue := rest }).updQueue p fun q => { q.giveBack with attached := false })
  | _ => .next s

/-- ATTACHMENT_REPORT (R129). -/
def execAttachmentReport (p : PortId) (s : State) : Host.Outcome State Fault Refusal :=
  match (s.port p).wires.toQueue with
  | .attachment :: rest =>
    .next ((s.updWires p fun w => { w with toQueue := rest }).updQueue p fun q => { q with attached := true })
  | _ => .next s

/-- FLUSH (R134, R174, step 5): every item is removed; the reply carries no count. -/
def execFlush (p : PortId) (s : State) : Host.Outcome State Fault Refusal :=
  match (s.port p).wires.toQueue with
  | .flush :: rest =>
    .next ((s.updWires p fun w => { w with toQueue := rest, partingReply := some 0 }).updQueue p fun q =>
      { q with items := [], marker := none })
  | _ => .next s

/-! ### The count question (R133) -/

/-- The ordinary notices not in flight. -/
def NoticeQueue.notInFlight (q : NoticeQueue) : Nat := q.items.countP fun it => !it.inFlight

/-- The dropped count plus the later count, stopping at 65535, when a marker is present. -/
def NoticeQueue.droppedTotal (q : NoticeQueue) : Option Nat :=
  q.marker.map fun m => min (m.dropped + (m.later.map Prod.snd).getD 0) Config.countLimit

end Sys2Proof.Machine
end

