-- ==== Sys2Proof/Machine/Resets.lean ====
section
/-! DEFINITION. The RESET pin (R7, R163, R187). -/

namespace Sys2Proof.Machine

/-- While RESET is asserted every block holds its values after RESET and every port is DETACHED (R7, R14, R40, R88, R89,
R106, R122, R124, R135, R144, R156, R159, R163). The pins and the queue of steps are not the part's to change (log 27). -/
def State.assertReset (s : State) : State :=
  { State.reset with
    resetAsserted := true
    inputPins := s.inputPins
    ports := s.ports.map fun pt => Port.reset pt.link.linkp pt.link.sel .detached
    pending := s.pending }

/-- RESET_ASSERTION (R163, R187). -/
def execResetAssertion (s : State) : Host.Outcome State Fault Refusal := .next s.assertReset

/-- The port state at the release of RESET (R159, R163). -/
def startState (linkp : Bool) : PortState := if linkp then .recovering .reset else .detached

/-- The release of RESET (R7, R163): each port starts by its LINKP. -/
def State.releaseReset (s : State) : State :=
  { s with
    resetAsserted := false
    ports := s.ports.map fun pt => { pt with session := { pt.session with state := startState pt.link.linkp } } }

/-- RESET_RELEASE (R7, R163): a release happens only while RESET is asserted. -/
def execResetRelease (s : State) : Host.Outcome State Fault Refusal :=
  if s.resetAsserted then .next s.releaseReset else .next s

end Sys2Proof.Machine
end

