-- ==== Sys2Proof/Machine/Firing.lean ====
section
/-! DEFINITION. Firing and repetition (R64 to R79): the work of one firing, and EXPIRY. -/

namespace Sys2Proof.Machine

/-- The request that a firing sends the line table (R68 to R70). -/
def Action.firing (a : Action) (st : PatternStore) : FiringAction :=
  match a with
  | .set => .high
  | .clear => .low
  | .toggle => .invert
  | .pattern segment position => .levels (st.word segment position)

/-- The position after a PATTERN firing: one further, and 0 when that equals the segment's length (R70). -/
def Action.advanced (a : Action) (st : PatternStore) : Action :=
  match a with
  | .pattern segment position =>
    let atEnd := (st.segments[segment]).any fun g => decide (position + 1 = g.length)
    .pattern segment (if atEnd then 0 else position + 1)
  | .set => .set
  | .clear => .clear
  | .toggle => .toggle

/-- The count taken down (R71): none when the firing is the final one. -/
def Remaining.takenDown : Remaining → Option Remaining
  | .counted n => if n ≤ 1 then none else some (.counted (n - 1))
  | .unbounded => some .unbounded

/-- The DONE notice of a final firing (R74, R75). -/
def Entry.doneNotice (e : Entry) (h : Handle) (t : Tick) (late : Bool) : List Notice :=
  if e.notify = .none then [] else [.done h e.label t late]

/-- The FIRED notice of a firing with firings left (R74, R75). -/
def Entry.firedNotice (e : Entry) (h : Handle) (t : Tick) (remaining : Remaining) (late : Bool) : List Notice :=
  if e.notify = .each then [.fired h e.label t remaining late] else []

/-- The entry after a firing with firings left (R70 to R72). -/
def Entry.rescheduled (e : Entry) (st : PatternStore) (remaining : Remaining) (due : Tick) : Entry :=
  { e with action := e.action.advanced st, state := .timed due, remaining := remaining }

/-- The next due tick of a firing at tick t (R72). An entry with firings left has an interval (R44, log 20). -/
def Entry.nextDue (e : Entry) (t : Tick) : Tick := later t (e.interval.getD 0)

/-- One firing of entry e in slot i, whole in one event and in the order of R67: the word, the firing action, the count,
the next due tick judged for collision or the ending, the notices. -/
def State.fire (s : State) (i : SlotId) (e : Entry) (late : Bool) : State :=
  let t := s.schedule.now
  let h := s.handle i
  let driven := s.applyFiring (e.action.firing s.store) e.lines
  match e.remaining.takenDown with
  | none => (driven.endEntry i).postSchedule e.port (e.doneNotice h t late)
  | some remaining =>
    if s.schedule.dueHeld (some i) e.lines (e.nextDue t) then
      (driven.endEntry i).postSchedule e.port
        (e.firedNotice h t remaining late ++ e.cancelledNotice h t remaining .collided)
    else
      (driven.setSlot i { s.slot i with entry := some (e.rescheduled s.store remaining (e.nextDue t)) }).postSchedule
        e.port (e.firedNotice h t remaining late)

/-- EXPIRY (R64, R67): the expiry of an entry that has fallen due. Its late flag is clear (R77). Its firing action reaches
the line table after the replies sent before it (R16). -/
def execExpiry (i : SlotId) (s : State) : Host.Outcome State Fault Refusal :=
  match s.fallenDue i with
  | some e => if s.repliesTaken then .next (s.fire i e false) else .next s
  | none => .next s

end Sys2Proof.Machine
end

