-- ==== Sys2Proof/Machine/Schedule.lean ====
section
/-! DEFINITION. The schedule unit: SCHEDULE, CANCEL, QUERY and LIST (R43 to R61), its tick (R35, R64, R115, R116), the
release of WAITING entries (R115 to R117), and the cancellation requests (R62). -/

namespace Sys2Proof.Machine

/-! ### SCHEDULE -/

/-- The lowest-numbered FREE slot (R37). -/
def State.freeSlot (s : State) : Option SlotId := (List.finRange 64).find? fun i => (s.entry i).isNone

/-- The position check of R45: below the length of an allocated segment; a free segment has no length. -/
def State.positionInRange (s : State) (a : Action) : Bool :=
  match a with
  | .pattern segment position => (s.store.segments[segment]).all fun g => decide (position < g.length)
  | _ => true

/-- The ownership checks of R46: every line owned and not held, and the segment of a PATTERN entry allocated to p. -/
def State.ownershipFor (s : State) (p : PortId) (pl : Plan) : Bool :=
  s.ownsForEntry p pl.lines &&
    match pl.action with
    | .pattern segment _ => (s.segmentOf p segment).isSome
    | _ => true

/-- The entry that a SCHEDULE creates (R53). -/
def Plan.entry (pl : Plan) (p : PortId) (state : EntryState) (latePolicy : Option LatePolicy) : Entry :=
  { port := p, label := pl.label, lines := pl.lines, action := pl.action, state := state, remaining := pl.remaining,
    interval := pl.interval, notify := pl.notify, latePolicy := latePolicy }

/-- An entry is placed in a FREE slot, which keeps its generation (R37, R53). -/
def State.place (s : State) (i : SlotId) (e : Entry) : State := s.setSlot i { s.slot i with entry := some e }

/-- An entry to be created TIMED: the collision check, then the creation (R52, R53). -/
def State.createTimed (s : State) (p : PortId) (i : SlotId) (pl : Plan) (due : Tick) (lp : Option LatePolicy) : State :=
  if s.schedule.dueHeld none pl.lines due then s.finish p .duplicate .empty
  else (s.place i (pl.entry p (.timed due) lp)).finish p .ok (.schedule (s.handle i) .timed (some due))

/-- An entry to be created WAITING, marked newly joined: the check against the waiting list, then the creation
(R51 to R53, R116). -/
def State.createWaiting (s : State) (p : PortId) (i : SlotId) (pl : Plan) (input : InputId) (sel : EdgeSelection)
    (offset : BitVec 24) : State :=
  if s.schedule.waitingHeld pl.lines input offset then s.finish p .duplicate .empty
  else (s.place i (pl.entry p (.waiting input sel offset true) none)).finish p .ok
    (.schedule (s.handle i) .waiting none)

/-- A late ABSOLUTE entry whose policy is FIRE_NOW (R49): the next due tick is judged first, then the entry fires with the
late flag, and ends or joins the due queue. -/
def State.createFireNow (s : State) (p : PortId) (i : SlotId) (pl : Plan) : State :=
  let e := pl.entry p (.timed s.schedule.now) (some .fireNow)
  match pl.remaining.takenDown with
  | none => (s.fire i e true).finish p .ok (.schedule (s.handle i) .ended none)
  | some _ =>
    let due := e.nextDue s.schedule.now
    if s.schedule.dueHeld none pl.lines due then s.finish p .duplicate .empty
    else (s.fire i e true).finish p .ok (.schedule (s.handle i) .timed (some due))

/-- The entry of a SCHEDULE that has passed the argument, ownership and FULL checks, by its mode (R48 to R51). -/
def State.create (s : State) (p : PortId) (i : SlotId) (pl : Plan) : State :=
  match pl.mode with
  | .trigger input sel offset => s.createWaiting p i pl input sel offset
  | .relative offset => s.createTimed p i pl (s.schedule.now + offset) none
  | .absolute due policy =>
    if inFuture s.schedule.now due then s.createTimed p i pl due (some policy)
    else
      match policy with
      | .refuse => s.finish p .late (.late s.schedule.now)
      | .fireNow => s.createFireNow p i pl

/-- SCHEDULE taken by the schedule unit: the checks of R44 to R52 in their order, then the creation (R53). One that comes to
its ownership question waits until the line table has taken the replies sent before (R16, R30). -/
def State.takeSchedule (s : State) (p : PortId) (a : ScheduleArgs) : State :=
  match a.plan with
  | none => s.finish p .badArg .empty
  | some pl =>
    if !s.positionInRange pl.action then s.finish p .badArg .empty
    else if !s.repliesTaken then s
    else if !s.ownershipFor p pl then s.finish p .notOwner .empty
    else
      match s.freeSlot with
      | none => s.finish p .full .empty
      | some i => s.create p i pl

/-- SCHEDULE (R53). -/
def execSchedule (p : PortId) (s : State) : Host.Outcome State Fault Refusal :=
  match (s.port p).request with
  | some (.schedule a) => .next (s.takeSchedule p a)
  | _ => .next s

/-! ### CANCEL and QUERY -/

/-- What a handle resolves to (R39). -/
inductive Resolved where
  | refused (status : Status)
  | entry (i : SlotId) (e : Entry)
  deriving DecidableEq, Repr

/-- The resolution of a handle against the slot pool (R39). -/
def State.resolve (s : State) (p : PortId) (slot generation : Byte) : Resolved :=
  match below 64 slot with
  | none => .refused .badArg
  | some i =>
    match s.entry i with
    | none => .refused .notFound
    | some e =>
      if (s.slot i).generation ≠ generation then .refused .notFound
      else if e.port ≠ p then .refused .notOwner
      else .entry i e

/-- The state of an entry as reported (R56, R58). -/
def EntryState.reported : EntryState → ReportedState
  | .timed _ => .timed
  | .waiting _ _ _ _ => .waiting

/-- CANCEL taken by the schedule unit (R56). -/
def State.takeCancel (s : State) (p : PortId) (slot generation : Byte) : State :=
  match s.resolve p slot generation with
  | .refused status => s.finish p status .empty
  | .entry i e => (s.endEntry i).finish p .ok (.cancel e.remaining e.state.reported)

/-- CANCEL (R56). -/
def execCancel (p : PortId) (s : State) : Host.Outcome State Fault Refusal :=
  match (s.port p).request with
  | some (.cancel slot generation) => .next (s.takeCancel p slot generation)
  | _ => .next s

/-- QUERY taken by the schedule unit (R58). -/
def State.takeQuery (s : State) (p : PortId) (slot generation : Byte) : State :=
  match s.resolve p slot generation with
  | .refused status => s.finish p status .empty
  | .entry i e => s.finish p .ok (.query (s.handle i) e)

/-- QUERY (R58). -/
def execQuery (p : PortId) (s : State) : Host.Outcome State Fault Refusal :=
  match (s.port p).request with
  | some (.query slot generation) => .next (s.takeQuery p slot generation)
  | _ => .next s

/-! ### LIST -/

/-- The due tick of the entry in slot i, when it is TIMED. -/
def State.dueOf (s : State) (i : SlotId) : Option Tick :=
  match s.entry i with
  | some e => match e.state with
    | .timed due => some due
    | .waiting _ _ _ _ => none
  | none => none

/-- Slot i stands ahead of the list when no slot of the list is nearer: among equal distances the lower slot comes first
because slots are inserted from the highest down (R41). -/
def State.insertByDue (s : State) (i : SlotId) : List SlotId → List SlotId
  | [] => [i]
  | j :: rest =>
    if distance s.schedule.now ((s.dueOf i).getD 0) ≤ distance s.schedule.now ((s.dueOf j).getD 0) then i :: j :: rest
    else j :: s.insertByDue i rest

/-- The due queue (R41): the slots of the TIMED entries by distance from now, then by slot. -/
def State.dueQueue (s : State) : List SlotId :=
  ((List.finRange 64).filter fun i => (s.dueOf i).isSome).foldr s.insertByDue []

/-- The waiting list (R42), by slot. -/
def State.waitingList (s : State) : List SlotId :=
  (List.finRange 64).filter fun i => (s.entry i).isSome && (s.dueOf i).isNone

/-- The pending entries of port p in LIST order (R60). -/
def State.listOf (s : State) (p : PortId) : List SlotId :=
  (s.dueQueue ++ s.waitingList).filter fun i => (s.entry i).any fun e => decide (e.port = p)

/-- LIST taken by the schedule unit (R60). -/
def State.takeList (s : State) (p : PortId) (k : Byte) : State :=
  if 63 < k.toNat then s.finish p .badArg .empty
  else
    s.finish p .ok
      (.list (s.listOf p).length
        ((((s.listOf p).drop k.toNat).take Config.listPage).map fun i => ⟨s.handle i, s.dueOf i⟩))

/-- LIST (R60). -/
def execList (p : PortId) (s : State) : Host.Outcome State Fault Refusal :=
  match (s.port p).request with
  | some (.list k) => .next (s.takeList p k)
  | _ => .next s

/-! ### The tick, the end-of-tick report and releases -/

/-- The newly joined mark is cleared (R116). -/
def Entry.unmarked (e : Entry) : Entry :=
  match e.state with
  | .waiting input sel offset _ => { e with state := .waiting input sel offset false }
  | .timed _ => e

/-- The schedule unit takes the tick of t (R35, R64, R116). -/
def ScheduleUnit.tick (u : ScheduleUnit) (t : Tick) : ScheduleUnit :=
  { now := t, slots := u.slots.map fun sl => { sl with entry := sl.entry.map Entry.unmarked }, endOfTickTaken := false }

/-- SCHEDULE_UNIT_TICK (R64): the next tick, taken only when the work of the tick before it is done. -/
def execScheduleUnitTick (s : State) : Host.Outcome State Fault Refusal :=
  match s.ticksToSchedule with
  | t :: rest =>
    if s.tickWorkDone then .next { s with ticksToSchedule := rest, schedule := s.schedule.tick t } else .next s
  | [] => .next s

/-- END_OF_TICK_REPORT (R115): the report of tick now. -/
def execEndOfTickReport (s : State) : Host.Outcome State Fault Refusal :=
  match s.endOfTickReports with
  | t :: rest =>
    if t = s.schedule.now then
      .next { s with endOfTickReports := rest, schedule := { s.schedule with endOfTickTaken := true } }
    else .next s
  | [] => .next s

/-- The entry is matched by a release request (R116), with its trigger offset. -/
def Entry.matchedBy (e : Entry) (r : ReleaseRequest) : Option (BitVec 24) :=
  match e.state with
  | .waiting input sel offset newlyJoined =>
    if input = r.input ∧ sel.admits r.direction = true ∧ newlyJoined = false then some offset else none
  | .timed _ => none

/-- The turn of one slot in a release request (R117): a matched entry takes its due tick, or ends COLLIDED. -/
def State.releaseSlot (r : ReleaseRequest) (s : State) (i : SlotId) : State :=
  match s.entry i with
  | none => s
  | some e =>
    match e.matchedBy r with
    | none => s
    | some offset =>
      let due := later r.tick offset
      if s.schedule.dueHeld (some i) e.lines due then
        (s.endEntry i).postSchedule e.port (e.cancelledNotice (s.handle i) r.tick e.remaining .collided)
      else s.place i { e with state := .timed due }

/-- A release request taken by the schedule unit (R117): the slots in ascending order. -/
def State.takeReleaseRequest (s : State) (r : ReleaseRequest) : State :=
  (List.finRange 64).foldl (State.releaseSlot r) s

/-- RELEASE_REQUEST (R115, R117): the waiting release request of the input whose capture tick is now. -/
def execReleaseRequest (input : InputId) (s : State) : Host.Outcome State Fault Refusal :=
  match s.releaseRequests.find? fun r => decide (r.input = input ∧ r.tick = s.schedule.now) with
  | some r => .next ({ s with releaseRequests := s.releaseRequests.erase r }.takeReleaseRequest r)
  | none => .next s

/-! ### Cancellation requests (R62) -/

/-- RELEASE_CANCELLATION_REQUEST (R24, R62): cause RELEASED; the reply carries the count. -/
def execReleaseCancellationRequest (p : PortId) (s : State) : Host.Outcome State Fault Refusal :=
  match (s.port p).wires.releaseRequest with
  | some ls =>
    let t := (s.cancelEntries p (Entry.touches p ls) (some .released)).updWires p fun w => { w with releaseRequest := none }
    .next { t with scheduleToLines := t.scheduleToLines ++ [.release p (s.cancelCount (Entry.touches p ls))] }
  | none => .next s

/-- ORPHAN_REQUEST (R62, R171): cause ORPHANED; the reply carries no count. -/
def execOrphanRequest (p : PortId) (s : State) : Host.Outcome State Fault Refusal :=
  match (s.port p).wires.orphanRequest with
  | some ls =>
    let t := (s.cancelEntries p (Entry.touches p ls) (some .orphaned)).updWires p fun w => { w with orphanRequest := none }
    .next { t with scheduleToLines := t.scheduleToLines ++ [.orphan p] }
  | none => .next s

/-- PARTING_REQUEST (R62, R174, step 1): every pending entry of the port ends, without a notice. -/
def execPartingRequest (p : PortId) (s : State) : Host.Outcome State Fault Refusal :=
  if s.partingAt p .entries then
    .next ((s.cancelEntries p (fun e => decide (e.port = p)) none).replyParting p (s.pendingCount p))
  else .next s

end Sys2Proof.Machine
end

