-- ==== Sys2Proof/Machine/Sessions.lean ====
section
/-! DEFINITION. The session controllers (R159 to R177): STATUS, HEARTBEAT and PARTING, the reports of LINKP, the tick and
the lapse, acceptance reports, settlement, and the ends of orphan processing and of a parting. While a STATUS is being
answered no other event of its session controller takes place. -/

namespace Sys2Proof.Machine

/-! ### STATUS (R167, R168) -/

/-- The start of a STATUS: no question is answered. -/
def Asked.start : Asked := { notices := none, lines := none, entries := none, value := none }

/-- A question has been answered. -/
def Asked.has (a : Asked) : StatusQuestion → Bool
  | .noticeCount => a.notices.isSome
  | .ownedLines => a.lines.isSome
  | .entryCount => a.entries.isSome
  | .timebaseValue => a.value.isSome

/-- A question reaches its block behind what the session controller sent that block before it (R160). -/
def Wires.reached (w : Wires) : StatusQuestion → Bool
  | .noticeCount => w.toQueue.isEmpty
  | .ownedLines => w.toLines.isEmpty
  | .entryCount => !w.partingRequest
  | .timebaseValue => true

/-- A block takes a question and answers it from its own state at that moment (R63, R133, R168). -/
def State.answer (s : State) (p : PortId) (a : Asked) : StatusQuestion → Asked
  | .noticeCount => { a with notices := some ((s.port p).queue.notInFlight, (s.port p).queue.droppedTotal) }
  | .ownedLines => { a with lines := some (s.ownedLines p) }
  | .entryCount => { a with entries := some (s.pendingCount p) }
  | .timebaseValue => { a with value := some s.timebase.value }

/-- The results of a STATUS, once every question is answered (R168). -/
def Session.record (se : Session) (a : Asked) : Option StatusRecord :=
  match a.notices, a.lines, a.entries, a.value with
  | some (notices, marker), some lines, some entries, some value =>
    some { previous := se.state, notices := notices, marker := marker, heartbeat := se.heartbeat, ownedLines := lines,
           pendingEntries := entries, timebaseValue := value }
  | _, _, _, _ => none

/-- A RECOVERING port is attached (R167): the lapse count starts and the attachment report is sent. -/
def Session.attach (se : Session) : Session :=
  { se with state := .attached, attachedSinceReset := true, lapseCount := lapseFor se.heartbeat }

/-- The end of a STATUS that is not held (R167). -/
def State.endStatus (s : State) (p : PortId) (record : StatusRecord) : State :=
  let attached : State :=
    match (s.port p).session.state with
    | .recovering _ =>
      (s.updSession p Session.attach).updWires p fun w => { w with toQueue := w.toQueue ++ [.attachment] }
    | _ => s
  (attached.updSession p fun se => { se with waiting := none, asking := none }).reply p .ok (.status record)

/-- A question of a STATUS is taken by its block. The answer to the last of the four ends the STATUS (R167, R168). -/
def State.takeQuestion (s : State) (p : PortId) (question : StatusQuestion) : State :=
  let asked := (s.port p).session.asking.getD Asked.start
  if asked.has question || !(s.port p).wires.reached question then s
  else
    match (s.port p).session.record (s.answer p asked question) with
    | some record => s.endStatus p record
    | none => s.updSession p fun se => { se with asking := some (s.answer p asked question) }

/-- STATUS (R167, R168): held while a departure awaits settlement, orphan processing or a parting is under way; otherwise
the first of its four questions begins it and the last ends it, and events of other blocks may fall between them (log
28). One handed to a port that has become DETACHED meanwhile goes on waiting for its withdrawal (log 16). -/
def execStatus (p : Ask) (s : State) : Host.Outcome State Fault Refusal :=
  match (s.port p.port).sessionRequest with
  | some ⟨.status, _⟩ =>
    if (s.port p.port).session.state = .detached then .next s
    else if (s.port p.port).session.settled then .next (s.takeQuestion p.port p.question)
    else .next (s.updSession p.port fun se => { se with waiting := some ⟨.status, true⟩ })
  | _ => .next s

/-- A held STATUS is taken afresh in the event in which the last of what held it ends (R167): it begins there, with its
questions still to be answered. -/
def State.takeHeld (s : State) (p : PortId) : State :=
  match (s.port p).session.waiting with
  | some ⟨.status, true⟩ =>
    if (s.port p).session.settled = true ∧ (s.port p).session.state ≠ .detached then
      s.updSession p fun se => { se with waiting := some ⟨.status, false⟩, asking := some Asked.start }
    else s
  | _ => s

/-! ### HEARTBEAT (R169) -/

/-- HEARTBEAT taken by the session controller (R169). -/
def State.takeHeartbeat (s : State) (p : PortId) (interval : BitVec 32) : State :=
  if Config.maxHeartbeat < interval.toNat then
    (s.updSession p fun se => { se with waiting := none }).reply p .badArg .empty
  else
    let v : BitVec 24 := interval.setWidth 24
    (s.updSession p fun se => { se with heartbeat := v, lapseCount := lapseFor v, waiting := none }).reply p .ok
      (.heartbeat (s.port p).session.heartbeat)

/-- HEARTBEAT (R169): taken only while the port is ATTACHED. -/
def execHeartbeat (p : PortId) (s : State) : Host.Outcome State Fault Refusal :=
  match (s.port p).sessionRequest with
  | some ⟨.heartbeat interval, _⟩ =>
    if (s.port p).session.state = .attached then .next (s.takeHeartbeat p interval) else .next s
  | _ => .next s

/-! ### PARTING (R174, R175) -/

/-- PARTING (R174): step 1 and the parting request. -/
def execParting (p : PortId) (s : State) : Host.Outcome State Fault Refusal :=
  match (s.port p).sessionRequest with
  | some ⟨.parting, _⟩ =>
    .next ((s.updSession p fun se =>
        { se with waiting := none, parting := some { step := .entries, entries := 0, lines := 0, segments := 0,
                                                     subscriptions := 0 } }).updWires p fun w =>
        { w with partingRequest := true })
  | _ => .next s

/-- The count that a reply brings, and the next step (R174, R175). The flush has no next step. -/
def Parting.advance (pa : Parting) (count : Nat) : Parting :=
  match pa.step with
  | .entries => { pa with step := .lines, entries := count }
  | .lines => { pa with step := .segments, lines := count }
  | .segments => { pa with step := .subscriptions, segments := count }
  | .subscriptions => { pa with step := .flush, subscriptions := count }
  | .flush => pa

/-- The request of the next step is sent: the line step goes to the line table and the flush to the notice queue, behind
what was sent there before (R160). -/
def Wires.sendStep (w : Wires) (step : PartingStep) : Wires :=
  match step with
  | .lines => { w with partingReply := none, toLines := w.toLines ++ [.lineStep] }
  | .flush => { w with partingReply := none, toQueue := w.toQueue ++ [.flush] }
  | _ => { w with partingReply := none, partingRequest := true }

/-- PARTING_STEP_REPLY (R174): the reply to step 1, 2, 3 or 4. -/
def execPartingStepReply (p : PortId) (s : State) : Host.Outcome State Fault Refusal :=
  match (s.port p).session.parting, (s.port p).wires.partingReply with
  | some pa, some count =>
    if pa.step = .flush ∨ s.asking p = true then .next s
    else
      .next ((s.updSession p fun se => { se with parting := some (pa.advance count) }).updWires p fun w =>
        w.sendStep (pa.advance count).step)
  | _, _ => .next s

/-- The end of a parting (R175): interval 0, no lapse count, the completion with the four counts; then a held STATUS is
taken if nothing else is under way (R167). -/
def State.endParting (s : State) (p : PortId) (pa : Parting) : State :=
  (((s.updSession p fun se => { se with heartbeat := 0, lapseCount := none, parting := none }).updWires p fun w =>
    { w with partingReply := none }).reply p .ok
      (.parting pa.entries pa.lines pa.segments pa.subscriptions)).takeHeld p

/-- FLUSH_REPLY (R175): the reply to step 5. -/
def execFlushReply (p : PortId) (s : State) : Host.Outcome State Fault Refusal :=
  match (s.port p).session.parting, (s.port p).wires.partingReply with
  | some pa, some _ => if pa.step = .flush ∧ s.asking p = false then .next (s.endParting p pa) else .next s
  | _, _ => .next s

/-! ### LINKP (R161, R162) -/

/-- The port state at a rise of LINKP (R161). -/
def Session.rise (se : Session) : Session :=
  match se.state with
  | .detached => { se with state := .recovering (if se.attachedSinceReset then .linkLoss else .reset) }
  | _ => se

/-- REPORT_OF_LINKP_RISING (R161). The reports are taken in the order sent (R188). -/
def execReportOfLinkpRising (p : PortId) (s : State) : Host.Outcome State Fault Refusal :=
  match (s.port p).wires.linkpReports with
  | .rising :: rest =>
    if s.asking p then .next s
    else .next ((s.updWires p fun w => { w with linkpReports := rest }).updSession p Session.rise)
  | _ => .next s

/-- The departure field after LINKP falls on a port that is not DETACHED (R162). -/
def Session.fallDeparture (se : Session) : Departure :=
  if se.state = .attached then .awaiting true
  else match se.departure with
    | .none => .awaiting false
    | .awaiting owed => .awaiting owed

/-- The session record at a fall of LINKP (R162). -/
def Session.fall (se : Session) : Session :=
  { se with state := .detached, lapseCount := none, departure := se.fallDeparture, waiting := none,
            removed := se.removed || se.waiting.isSome }

/-- LINKP falls on a port that is not DETACHED (R162). -/
def State.takeFall (s : State) (p : PortId) : State :=
  let wasAttached := decide ((s.port p).session.state = .attached)
  (s.updSession p Session.fall).updWires p fun w =>
    { w with
      fromSession := w.fromSession ++ [.departure true]
      toQueue := if wasAttached then w.toQueue ++ [.departure] else w.toQueue }

/-- REPORT_OF_LINKP_FALLING (R162): taken while DETACHED it changes nothing. -/
def execReportOfLinkpFalling (p : PortId) (s : State) : Host.Outcome State Fault Refusal :=
  match (s.port p).wires.linkpReports with
  | .falling :: rest =>
    let popped := s.updWires p fun w => { w with linkpReports := rest }
    if s.asking p then .next s
    else if (s.port p).session.state = .detached then .next popped
    else .next (popped.takeFall p)
  | _ => .next s

/-! ### The tick and the lapse (R170) -/

/-- The session record at a lapse (R170). -/
def Session.lapsed (se : Session) : Session :=
  { se with state := .recovering .lapse, lapseCount := none, departure := .awaiting true, waiting := none,
            removed := se.removed || se.waiting.isSome }

/-- The lapse timer expires (R170). -/
def State.takeLapse (s : State) (p : PortId) : State :=
  (s.updSession p Session.lapsed).updWires p fun w =>
    { w with fromSession := w.fromSession ++ [.departure false], toQueue := w.toQueue ++ [.departure] }

/-- The lapse count of a port that is ATTACHED and has one. -/
def State.running (s : State) (p : PortId) : Option Nat :=
  if (s.port p).session.state = .attached then (s.port p).session.lapseCount else none

/-- The tick at the session controller of port p (R170): the count is lowered, and at 0 the timer expires in the same
event. -/
def State.sessionTick (s : State) (p : PortId) : State :=
  match s.running p with
  | none => s
  | some n => if n ≤ 1 then s.takeLapse p else s.updSession p fun se => { se with lapseCount := some (n - 1) }

/-- The oldest tick under way to the session controller of port p is taken off. -/
def State.popTick (s : State) (p : PortId) : State := s.updWires p fun w => { w with ticks := w.ticks.tail }

/-- SESSION_CONTROLLER_TICK (R3, R170). -/
def execSessionControllerTick (p : PortId) (s : State) : Host.Outcome State Fault Refusal :=
  match (s.port p).wires.ticks with
  | _ :: _ => if s.asking p then .next s else .next ((s.popTick p).sessionTick p)
  | [] => .next s

/-- The next tick of port p takes its lapse count to 0. -/
def State.lapses (s : State) (p : PortId) : Bool :=
  !(s.port p).wires.ticks.isEmpty && !s.asking p && (s.running p).any fun n => decide (n ≤ 1)

/-- LAPSE (R170): the tick at which the lapse count reaches 0 (DEDUCED, log 7). -/
def execLapse (p : PortId) (s : State) : Host.Outcome State Fault Refusal :=
  if s.lapses p then .next ((s.popTick p).takeLapse p) else .next s

/-! ### Acceptance and settlement (R164, R166, R171) -/

/-- An acceptance report of an ATTACHED port restarts the lapse timer when the interval is not 0 (R166). -/
def Session.restart (se : Session) : Session :=
  if se.state = .attached ∧ se.heartbeat ≠ 0 then { se with lapseCount := some se.heartbeat.toNat } else se

/-- ACCEPTANCE_REPORT (R151, R166). -/
def execAcceptanceReport (p : PortId) (s : State) : Host.Outcome State Fault Refusal :=
  match (s.port p).wires.toSession with
  | .acceptance _ :: rest =>
    let attached := decide ((s.port p).session.state = .attached)
    if s.asking p then .next s
    else .next ((s.updSession p Session.restart).updWires p fun w =>
      { w with toSession := rest, fromSession := w.fromSession ++ [.answer attached] })
  | _ => .next s

/-- A settlement report taken (R164): orphan processing that is owed starts (R171); the departure is settled; a held
STATUS is taken if nothing else is under way (R167). -/
def State.takeSettlement (s : State) (p : PortId) : State :=
  match (s.port p).session.departure with
  | .none => s
  | .awaiting true =>
    (s.updSession p fun se => { se with departure := .none, orphan := true }).updWires p fun w =>
      { w with toLines := w.toLines ++ [.orphanStart] }
  | .awaiting false => (s.updSession p fun se => { se with departure := .none }).takeHeld p

/-- SETTLEMENT_REPORT (R164). -/
def execSettlementReport (p : PortId) (s : State) : Host.Outcome State Fault Refusal :=
  match (s.port p).wires.toSession with
  | .settlement :: rest =>
    if s.asking p then .next s else .next ((s.updWires p fun w => { w with toSession := rest }).takeSettlement p)
  | _ => .next s

/-- ORPHAN_COMPLETION_REPLY (R172): orphan processing ends, and a held STATUS is taken if nothing else is under way. -/
def execOrphanCompletionReply (p : PortId) (s : State) : Host.Outcome State Fault Refusal :=
  if (s.port p).wires.orphanReply && !s.asking p then
    .next (((s.updWires p fun w => { w with orphanReply := false }).updSession p fun se =>
      { se with orphan := false }).takeHeld p)
  else .next s

end Sys2Proof.Machine
end

