-- ==== Sys2Proof/Machine/Timebase.lean ====
section
/-! DEFINITION. The timebase: REFCLK periods and the tick (R1, R2, R12), TIME (R9) and PRESCALE (R10). -/

namespace Sys2Proof.Machine

/-- The timebase at the tick (R2): the value advances, the count returns to 0, the interval length takes the prescale. -/
def Timebase.tick (tb : Timebase) : Timebase :=
  { tb with value := tb.value + 1, intervalLength := tb.prescale, intervalCount := 0 }

/-- A REFCLK period completes that does not end the interval (R2). -/
def Timebase.count (tb : Timebase) : Timebase := { tb with intervalCount := tb.intervalCount + 1 }

/-- The REFCLK period now running ends the tick interval. -/
def Timebase.endsInterval (tb : Timebase) : Bool := decide (tb.intervalLength ≤ tb.intervalCount + 1)

/-- The tick occurs and is delivered to its takers with the new value (R2, R3); the trigger unit's carries the levels of
T0 to T3 on the REFCLK period that completes the interval (R104). -/
def State.deliverTick (s : State) (levels : BitVec 4) : State :=
  let tb := s.timebase.tick
  { s with
    inputPins := levels
    timebase := tb
    ticksToSchedule := s.ticksToSchedule ++ [tb.value]
    ticksToTrigger := s.ticksToTrigger ++ [(tb.value, levels)]
    ports := s.ports.map fun pt => { pt with wires := { pt.wires with ticks := pt.wires.ticks ++ [tb.value] } } }

/-- Every taker has taken the tick before, and its work is done: no expiry, release, capture or lapse is carried into the
next tick (R3, R189; log 22). -/
def State.tickSettled (s : State) : Bool :=
  s.ticksToSchedule.isEmpty && s.ticksToTrigger.isEmpty && s.ports.all (fun pt => pt.wires.ticks.isEmpty) && s.tickWorkDone

/-- The tick, when that of the tick before it is settled. -/
def State.makeTick (s : State) (levels : BitVec 4) : State := if s.tickSettled then s.deliverTick levels else s

/-- One REFCLK period completes while RESET is released (R2). -/
def State.refclk (s : State) (levels : BitVec 4) : State :=
  if s.timebase.endsInterval then s.makeTick levels
  else { s with inputPins := levels, timebase := s.timebase.count }

/-- REFCLK_PERIOD (R2): no period is counted while RESET is asserted (R7). -/
def execRefclkPeriod (levels : BitVec 4) (s : State) : Host.Outcome State Fault Refusal :=
  if s.resetAsserted then .next s else .next (s.refclk levels)

/-- TICK (R2): the REFCLK periods left in the interval pass, and the last of them carries the tick
(DEDUCED, log 6). No tick is made while RESET is asserted (R7). -/
def execTick (levels : BitVec 4) (s : State) : Host.Outcome State Fault Refusal :=
  if s.resetAsserted then .next s else .next (s.makeTick levels)

/-- TIME (R9). -/
def execTime (p : PortId) (s : State) : Host.Outcome State Fault Refusal :=
  match (s.port p).request with
  | some .time => .next (s.finish p .ok (.time s.timebase.value s.timebase.prescale))
  | _ => .next s

/-- PRESCALE taken by the timebase (R10): range, then the pending question, then the new divisor. -/
def State.takePrescale (s : State) (p : PortId) (value : BitVec 24) : State :=
  if value.toNat = 0 ∨ 65536 < value.toNat then s.finish p .badArg .empty
  else if s.anyPending then s.finish p .inUse .empty
  else
    { s with timebase := { s.timebase with prescale := value.toNat } }.finish p .ok
      (.prescale s.timebase.prescale s.timebase.value)

/-- PRESCALE (R10). -/
def execPrescale (p : PortId) (s : State) : Host.Outcome State Fault Refusal :=
  match (s.port p).request with
  | some (.prescale value) => .next (s.takePrescale p value)
  | _ => .next s

end Sys2Proof.Machine
end

