-- ==== Sys2Proof/Machine/Triggers.lean ====
section
/-! DEFINITION. The trigger unit: sampling and edges (R104 to R107), subscriptions (R108 to R112), INPUTS (R114), and the
subscription step of parting (R121). -/

namespace Sys2Proof.Machine

/-! ### Sampling and edges -/

/-- The edge that a sample gives: none on the first sample after RESET, and none when the level is unchanged
(R104, R106). -/
def Input.edge (r : Input) (level : Bool) : Option Direction :=
  match r.sampled with
  | none => none
  | some old => if old = level then none else some (if level then .rise else .fall)

/-- The record after the sample of tick t (R105). -/
def Input.sample (r : Input) (level : Bool) (t : Tick) : Input :=
  match r.edge level with
  | none => { r with sampled := some level }
  | some d => { sampled := some level, lastEdge := some (t, d), edgeCount := r.edgeCount + 1 }

/-- The edge matches the subscription (R110). -/
def Subscription.matched (sub : Subscription) (input : InputId) (d : Direction) : Bool :=
  decide (sub.input = input) && sub.selection.admits d

/-- The place after its notice (R111): counted down, and free when the count falls from 1 to 0. -/
def Subscription.counted (sub : Subscription) : Option Subscription :=
  match sub.remaining with
  | .unbounded => some sub
  | .counted n => if n ≤ 1 then none else some { sub with remaining := .counted (n - 1) }

/-- The turn of one place at an edge (R107, R110, R111). -/
def State.notifyPlace (input : InputId) (d : Direction) (t : Tick) (s : State) (k : Fin 8) : State :=
  match s.trigger.places[k] with
  | none => s
  | some sub =>
    if sub.matched input d then
      { s with trigger := { s.trigger with places := s.trigger.places.set k sub.counted } }.postTrigger sub.port
        (.captured t input d k sub.counted.isNone)
    else s

/-- The work of one input at tick t (R107): the record, the subscriptions in ascending order, the release request. -/
def State.inputTick (levels : BitVec 4) (t : Tick) (s : State) (k : InputId) : State :=
  let level := levels.getLsbD k.val
  let r := s.trigger.inputs[k]
  let s := { s with trigger := { s.trigger with inputs := s.trigger.inputs.set k (r.sample level t) } }
  match r.edge level with
  | none => s
  | some d =>
    let s := (List.finRange 8).foldl (State.notifyPlace k d t) s
    { s with releaseRequests := s.releaseRequests ++ [⟨k, d, t⟩] }

/-- The tick event of the trigger unit (R107, R115): T0 to T3 in order, then the end-of-tick report. -/
def State.takeTriggerTick (s : State) (t : Tick) (levels : BitVec 4) : State :=
  let s := (List.finRange 4).foldl (State.inputTick levels t) s
  { s with endOfTickReports := s.endOfTickReports ++ [t] }

/-- TRIGGER_UNIT_TICK (R107). -/
def execTriggerUnitTick (s : State) : Host.Outcome State Fault Refusal :=
  match s.ticksToTrigger with
  | (t, levels) :: rest => .next ({ s with ticksToTrigger := rest }.takeTriggerTick t levels)
  | [] => .next s

/-! ### Commands -/

/-- The lowest-numbered free place (R109). -/
def TriggerUnit.freePlace (u : TriggerUnit) : Option (Fin 8) := (List.finRange 8).find? fun k => (u.places[k]).isNone

/-- SUBSCRIBE taken by the trigger unit (R109). -/
def State.takeSubscribe (s : State) (p : PortId) (input selection : Byte) (count : BitVec 16) : State :=
  match below 4 input, edgeSelectionOf selection with
  | some k, some sel =>
    if 255 < count.toNat then s.finish p .badArg .empty
    else
      match s.trigger.freePlace with
      | none => s.finish p .full .empty
      | some n =>
        { s with trigger := { s.trigger with places := s.trigger.places.set n (some ⟨p, k, sel, remainingOf count⟩) } }.finish
          p .ok (.subscribe n)
  | _, _ => s.finish p .badArg .empty

/-- SUBSCRIBE (R109). -/
def execSubscribe (p : PortId) (s : State) : Host.Outcome State Fault Refusal :=
  match (s.port p).request with
  | some (.subscribe input selection count) => .next (s.takeSubscribe p input selection count)
  | _ => .next s

/-- UNSUBSCRIBE taken by the trigger unit (R112). -/
def State.takeUnsubscribe (s : State) (p : PortId) (number : Byte) : State :=
  match below 8 number with
  | none => s.finish p .badArg .empty
  | some n =>
    match s.trigger.places[n] with
    | none => s.finish p .notFound .empty
    | some sub =>
      if sub.port ≠ p then s.finish p .notOwner .empty
      else
        { s with trigger := { s.trigger with places := s.trigger.places.set n none } }.finish p .ok
          (.unsubscribe sub.remaining)

/-- UNSUBSCRIBE (R112). -/
def execUnsubscribe (p : PortId) (s : State) : Host.Outcome State Fault Refusal :=
  match (s.port p).request with
  | some (.unsubscribe number) => .next (s.takeUnsubscribe p number)
  | _ => .next s

/-- INPUTS (R114). -/
def execInputs (p : PortId) (s : State) : Host.Outcome State Fault Refusal :=
  match (s.port p).request with
  | some .inputs => .next (s.finish p .ok (.inputs s.trigger.inputs s.trigger.places))
  | _ => .next s

/-! ### Parting -/

/-- The subscriptions of port p are removed (R121). -/
def TriggerUnit.removeAllOf (u : TriggerUnit) (p : PortId) : TriggerUnit :=
  { u with places := u.places.map fun o => if o.any (fun sub => decide (sub.port = p)) then none else o }

/-- The number of subscriptions of port p. -/
def TriggerUnit.countOf (u : TriggerUnit) (p : PortId) : Nat :=
  u.places.toList.countP fun o => o.any fun sub => decide (sub.port = p)

/-- SUBSCRIPTION_STEP (R121, R174, step 4): without notices. -/
def execSubscriptionStep (p : PortId) (s : State) : Host.Outcome State Fault Refusal :=
  if s.partingAt p .subscriptions then
    .next ({ s with trigger := s.trigger.removeAllOf p }.replyParting p (s.trigger.countOf p))
  else .next s

end Sys2Proof.Machine
end

