-- ==== Sys2Proof/Machine/Dispatch.lean ====
section
/-! DEFINITION. The dispatch: one arm for each step of spec/opcode_table.json, in the table's order. -/

namespace Sys2Proof.Machine

def exec (i : Instr) (s : State) : Host.Outcome State Fault Refusal :=
  match i with
  | .status p => Sys2Proof.Machine.execStatus p s
  | .heartbeat p => Sys2Proof.Machine.execHeartbeat p s
  | .parting p => Sys2Proof.Machine.execParting p s
  | .fetch p => Sys2Proof.Machine.execFetch p s
  | .time p => Sys2Proof.Machine.execTime p s
  | .prescale p => Sys2Proof.Machine.execPrescale p s
  | .claim p => Sys2Proof.Machine.execClaim p s
  | .release p => Sys2Proof.Machine.execRelease p s
  | .drive p => Sys2Proof.Machine.execDrive p s
  | .lines p => Sys2Proof.Machine.execLines p s
  | .schedule p => Sys2Proof.Machine.execSchedule p s
  | .cancel p => Sys2Proof.Machine.execCancel p s
  | .query p => Sys2Proof.Machine.execQuery p s
  | .list p => Sys2Proof.Machine.execList p s
  | .alloc p => Sys2Proof.Machine.execAlloc p s
  | .free p => Sys2Proof.Machine.execFree p s
  | .load p => Sys2Proof.Machine.execLoad p s
  | .segments p => Sys2Proof.Machine.execSegments p s
  | .subscribe p => Sys2Proof.Machine.execSubscribe p s
  | .unsubscribe p => Sys2Proof.Machine.execUnsubscribe p s
  | .inputs p => Sys2Proof.Machine.execInputs p s
  | .resetAssertion => Sys2Proof.Machine.execResetAssertion s
  | .resetRelease => Sys2Proof.Machine.execResetRelease s
  | .tick levels => Sys2Proof.Machine.execTick levels s
  | .scheduleUnitTick => Sys2Proof.Machine.execScheduleUnitTick s
  | .expiry slot => Sys2Proof.Machine.execExpiry slot s
  | .triggerUnitTick => Sys2Proof.Machine.execTriggerUnitTick s
  | .releaseRequest input => Sys2Proof.Machine.execReleaseRequest input s
  | .endOfTickReport => Sys2Proof.Machine.execEndOfTickReport s
  | .sessionControllerTick p => Sys2Proof.Machine.execSessionControllerTick p s
  | .lapse p => Sys2Proof.Machine.execLapse p s
  | .linkpFall p => Sys2Proof.Machine.execLinkpFall p s
  | .linkpRise p => Sys2Proof.Machine.execLinkpRise p s
  | .reportOfLinkpRising p => Sys2Proof.Machine.execReportOfLinkpRising p s
  | .reportOfLinkpFalling p => Sys2Proof.Machine.execReportOfLinkpFalling p s
  | .windowOpen p => Sys2Proof.Machine.execWindowOpen p s
  | .opener p bits => Sys2Proof.Machine.execOpener p bits s
  | .commandWindowClose p bits stray => Sys2Proof.Machine.execCommandWindowClose p bits stray s
  | .responseWindowClose p edges => Sys2Proof.Machine.execResponseWindowClose p edges s
  | .acceptanceReport p => Sys2Proof.Machine.execAcceptanceReport p s
  | .acceptanceAnswer p => Sys2Proof.Machine.execAcceptanceAnswer p s
  | .completion p => Sys2Proof.Machine.execCompletion p s
  | .withdrawalRequest p block => Sys2Proof.Machine.execWithdrawalRequest p block s
  | .withdrawalReply p => Sys2Proof.Machine.execWithdrawalReply p s
  | .departureInstruction p => Sys2Proof.Machine.execDepartureInstruction p s
  | .settlementReport p => Sys2Proof.Machine.execSettlementReport p s
  | .departureReport p => Sys2Proof.Machine.execDepartureReport p s
  | .attachmentReport p => Sys2Proof.Machine.execAttachmentReport p s
  | .acknowledgement p => Sys2Proof.Machine.execAcknowledgement p s
  | .returnRequest p => Sys2Proof.Machine.execReturnRequest p s
  | .post p source => Sys2Proof.Machine.execPost p source s
  | .releaseCancellationRequest p => Sys2Proof.Machine.execReleaseCancellationRequest p s
  | .releaseCompletion p => Sys2Proof.Machine.execReleaseCompletion p s
  | .orphanStart p => Sys2Proof.Machine.execOrphanStart p s
  | .orphanRequest p => Sys2Proof.Machine.execOrphanRequest p s
  | .orphanCompletion p => Sys2Proof.Machine.execOrphanCompletion p s
  | .orphanCompletionReply p => Sys2Proof.Machine.execOrphanCompletionReply p s
  | .partingRequest p => Sys2Proof.Machine.execPartingRequest p s
  | .lineStep p => Sys2Proof.Machine.execLineStep p s
  | .freeStep p => Sys2Proof.Machine.execFreeStep p s
  | .subscriptionStep p => Sys2Proof.Machine.execSubscriptionStep p s
  | .flush p => Sys2Proof.Machine.execFlush p s
  | .partingStepReply p => Sys2Proof.Machine.execPartingStepReply p s
  | .flushReply p => Sys2Proof.Machine.execFlushReply p s
  | .refclkPeriod levels => Sys2Proof.Machine.execRefclkPeriod levels s

end Sys2Proof.Machine
end

