-- ==== Sys2Proof/Safety.lean ====
section
/-! DEFINITION. What the claims say: runs of several steps, what an entry or a queue may look like, and the laws the spec
says every step keeps. -/

namespace Sys2Proof.Machine

/-! ### Runs and parts of the state -/

/-- Steps taken one after the other. -/
def runSteps : List Instr → State → Answer
  | [], s => .next s
  | c :: rest, s =>
    match exec c s with
    | .next t => runSteps rest t
    | .fault f => .fault f
    | .refused r => .refused r

/-- The state with everything of port p replaced, and nothing else changed. -/
def State.withPort (s : State) (p : PortId) (pt : Port) : State := { s with ports := s.ports.set p pt }

/-- A port whose session controller has completed its request: the completion goes to the port link controller behind what
the session controller sent it before (R150, R160). -/
def Port.answered (pt : Port) (status : Status) (result : Result) : Port :=
  { pt with wires := { pt.wires with fromSession := pt.wires.fromSession ++ [.reply (.completion ⟨status, result⟩)] } }

/-- A port to which a block other than its session controller has sent a completion (R150). -/
def Port.sent (pt : Port) (status : Status) (result : Result) : Port :=
  { pt with wires := { pt.wires with toLink := pt.wires.toLink ++ [.completion ⟨status, result⟩] } }

/-- The request c of port p waits at its block, other than the session controller, and no withdrawal that was sent there
before it waits any more (R152). -/
abbrev Requested (s : State) (p : PortId) (c : Command) : Prop :=
  (s.port p).wires.request = some c ∧ ∀ x ∈ (s.port p).wires.withdrawals, x.block = c.block → x.live = true

/-- The request w of port p waits at its session controller, and no withdrawal that was sent there before it waits any more
(R152). -/
abbrev SessionRequested (s : State) (p : PortId) (w : Waiting) : Prop :=
  (s.port p).session.waiting = some w ∧ ∀ x ∈ (s.port p).wires.withdrawals, x.block = .session → x.live = true

/-- The record of a line after its safe return (R26). -/
def returned (l : Line) : Line :=
  { owner := none, level := l.safeLevel, safeLevel := l.safeLevel, policy := none, held := false }

/-- The bytes of a number of `n` bytes, the most significant first (R178). -/
def bigEndian (n v : Nat) : List Byte := (List.range n).map fun i => BitVec.ofNat 8 (v / 256 ^ (n - 1 - i))

/-- Word w of the store is unallocated: no segment covers it (R89). -/
def Unallocated (st : PatternStore) (w : Nat) : Prop :=
  ∀ (k : Fin 8) (g : Segment), st.segments[k] = some g → ¬ (g.base ≤ w ∧ w < g.base + g.length)

/-! ### The schedule -/

/-- The work of tick now is done (R3, R64, R115): no entry stands at distance 0, the end-of-tick report has been taken, and
no release request of now waits. -/
structure WorkDone (s : State) : Prop where
  due : ∀ i e, s.entry i = some e → e.state ≠ .timed s.schedule.now
  report : s.schedule.endOfTickTaken = true
  releases : ∀ r ∈ s.releaseRequests, r.tick ≠ s.schedule.now

/-- Every taker has taken the last tick, and its work is done (R3): the schedule unit, the trigger unit and the four session
controllers. -/
structure TickSettled (s : State) : Prop where
  schedule : s.ticksToSchedule = []
  trigger : s.ticksToTrigger = []
  sessions : ∀ p, (s.port p).wires.ticks = []
  work : WorkDone s

/-- The two sets share a line. -/
def Meets (a b : LineSet) : Prop := ∃ k : Fin 16, hasLine a k = true ∧ hasLine b k = true

/-- The entry of slot j is TIMED with due tick t and shares a line with the set. -/
def HoldsDue (s : State) (j : SlotId) (ls : LineSet) (t : Tick) : Prop :=
  ∃ e, s.entry j = some e ∧ e.state = .timed t ∧ Meets e.lines ls

/-- The entry of slot j is WAITING for the input and offset and shares a line with the set. -/
def WaitsWith (s : State) (j : SlotId) (ls : LineSet) (input : InputId) (offset : BitVec 24) : Prop :=
  ∃ e sel mark, s.entry j = some e ∧ e.state = .waiting input sel offset mark ∧ Meets e.lines ls

/-- A SCHEDULE of port p that passes the checks of R44 to R47, with the lowest FREE slot i, no reply of the schedule unit
waiting before its ownership question (R16; DEDUCED, log 11). -/
structure Admitted (s : State) (p : PortId) (a : ScheduleArgs) (pl : Plan) (i : SlotId) : Prop where
  request : Requested s p (.schedule a)
  replies : s.scheduleToLines = []
  plan : a.plan = some pl
  position : ∀ seg pos g, pl.action = .pattern seg pos → s.store.segments[seg] = some g → pos < g.length
  owned : ∀ k : Fin 16, hasLine pl.lines k = true → (s.line k).owner = some p ∧ (s.line k).held = false
  segment : ∀ seg pos, pl.action = .pattern seg pos → ∃ g, s.store.segments[seg] = some g ∧ g.owner = p
  free : s.entry i = none
  lowest : ∀ j : SlotId, j < i → s.entry j ≠ none

/-- The slots after a cancellation request for the entries that satisfy a test (R38, R62): a matched slot is FREE and its
generation has advanced; every other slot stays. -/
def EndsMatching (s t : State) (f : Entry → Prop) : Prop :=
  ∀ i : SlotId,
    (∀ e, s.entry i = some e → f e → t.slot i = { generation := (s.slot i).generation + 1, entry := none }) ∧
    ((∀ e, s.entry i = some e → ¬ f e) → t.slot i = s.slot i)

/-! ### Laws of the state -/

/-- R13: the policy is present while the line is owned and absent otherwise, and a line held for release is owned. -/
def LineLaw (s : State) : Prop :=
  ∀ i : Fin 16, ((s.line i).owner = none ↔ (s.line i).policy = none) ∧
    ((s.line i).held = true → (s.line i).owner ≠ none)

/-- R92: every segment lies within the store and no two share a word; R89: a length is at least 1. -/
def StoreLaw (s : State) : Prop :=
  (∀ (k : Fin 8) (g : Segment), s.store.segments[k] = some g → 1 ≤ g.length ∧ g.base + g.length ≤ 256) ∧
  ∀ (j k : Fin 8) (g h : Segment), j ≠ k → s.store.segments[j] = some g → s.store.segments[k] = some h →
    g.base + g.length ≤ h.base ∨ h.base + h.length ≤ g.base

/-- R41: no two TIMED entries that share a line have the same due tick. R42: no two WAITING entries of one input and offset
share a line. -/
def CollisionLaw (s : State) : Prop :=
  (∀ (i j : SlotId) (e : Entry) (t : Tick), i ≠ j → s.entry i = some e → e.state = .timed t → ¬ HoldsDue s j e.lines t) ∧
  ∀ (i j : SlotId) (e : Entry) (input : InputId) (sel : EdgeSelection) (offset : BitVec 24) (mark : Bool), i ≠ j →
    s.entry i = some e → e.state = .waiting input sel offset mark → ¬ WaitsWith s j e.lines input offset

/-- R36, R108: a count still to come is at least 1, at most 65535 in an entry and at most 255 in a subscription. -/
def CountLaw (s : State) : Prop :=
  (∀ (i : SlotId) (e : Entry) (n : Nat), s.entry i = some e → e.remaining = .counted n → 1 ≤ n ∧ n ≤ 65535) ∧
  ∀ (k : Fin 8) (sub : Subscription) (n : Nat), s.trigger.places[k] = some sub → sub.remaining = .counted n →
    1 ≤ n ∧ n ≤ 255

/-- R95: every segment named by a pending PATTERN entry is allocated to the entry's port; R36: the position is below its
length. -/
def SegmentLaw (s : State) : Prop :=
  ∀ (i : SlotId) (e : Entry) (seg : Fin 8) (pos : Nat), s.entry i = some e → e.action = .pattern seg pos →
    ∃ g, s.store.segments[seg] = some g ∧ g.owner = e.port ∧ pos < g.length

/-- R46: every line of a pending entry is owned by the entry's port. -/
def OwnershipLaw (s : State) : Prop :=
  ∀ (i : SlotId) (e : Entry) (k : Fin 16), s.entry i = some e → hasLine e.lines k = true →
    (s.line k).owner = some e.port

/-- R13: a line that no port owns stands at its safe level. -/
def SafeLevelLaw (s : State) : Prop := ∀ k : Fin 16, (s.line k).owner = none → (s.line k).level = (s.line k).safeLevel

/-- R3: no work of a tick is carried into the next, so at most one tick is under way to each taker, the last one made. -/
def TickLaw (s : State) : Prop :=
  (s.ticksToSchedule = [] ∨ s.ticksToSchedule = [s.timebase.value]) ∧
    (s.ticksToTrigger = [] ∨ ∃ levels, s.ticksToTrigger = [(s.timebase.value, levels)]) ∧
    ∀ p, (s.port p).wires.ticks = [] ∨ (s.port p).wires.ticks = [s.timebase.value]

/-- The command gives line k back by a safe return (R26): the completion of a RELEASE (R25), the orphan completion (R172)
and the line step of a parting (R174). -/
def GivesBack (s : State) (c : Instr) (k : Fin 16) : Prop :=
  ∃ p, (s.line k).owner = some p ∧
    ((c = .releaseCompletion p ∧ (s.line k).held = true ∧ ∃ ls, (s.port p).releasing = some ls ∧ hasLine ls k = true) ∨
     (c = .orphanCompletion p ∧ ∃ ls, (s.port p).orphanSafe = some ls ∧ hasLine ls k = true) ∨ c = .lineStep p)

/-- R124, R126, R127 for one queue: at most 16 ordinary notices; the items in flight stand together at the head, and a
marker in flight has every ordinary notice in flight before it; the counts of the marker run from 1 to 65535, and a later
part stands only in a marker in flight. -/
structure NoticeQueue.Law (q : NoticeQueue) : Prop where
  capacity : q.items.length ≤ 16
  head : ∃ n, q.items.map Item.inFlight = List.replicate n true ++ List.replicate (q.items.length - n) false
  last : ∀ m, q.marker = some m → m.inFlight = true → ∀ it ∈ q.items, it.inFlight = true
  dropped : ∀ m, q.marker = some m → 1 ≤ m.dropped ∧ m.dropped ≤ 65535
  later : ∀ m t n, q.marker = some m → m.later = some (t, n) → m.inFlight = true ∧ 1 ≤ n ∧ n ≤ 65535

/-- R132: no item is in flight while the attached record is no. -/
def NoticeQueue.Quiet (q : NoticeQueue) : Prop :=
  q.attached = false → (∀ it ∈ q.items, it.inFlight = false) ∧ ∀ m, q.marker = some m → m.inFlight = false

/-- Every notice queue keeps its laws. -/
def QueueLaw (s : State) : Prop := ∀ p, (s.port p).queue.Law ∧ (s.port p).queue.Quiet

/-- R7, R14, R40, R88, R89, R106, R122, R124, R135, R144, R156, R159, R163: while RESET is asserted every block holds its
values after RESET and every port is DETACHED. -/
def ResetLaw (s : State) : Prop := s.resetAsserted = true → s = s.assertReset

/-- R159: a lapse count is present only while the port is ATTACHED, and lies between 1 and the heartbeat interval. -/
def LapseLaw (s : State) : Prop :=
  ∀ p n, (s.port p).session.lapseCount = some n →
    (s.port p).session.state = .attached ∧ 1 ≤ n ∧ n ≤ (s.port p).session.heartbeat.toNat

/-- R1, R2, R10: the interval count stays below the interval length, and both divisors lie between 1 and 65536. -/
def TimebaseLaw (s : State) : Prop :=
  s.timebase.intervalCount < s.timebase.intervalLength ∧ s.timebase.intervalLength ≤ 65536 ∧
    1 ≤ s.timebase.prescale ∧ s.timebase.prescale ≤ 65536

/-- The ticks under way to the schedule unit are those from now + 1 on to the timebase value (R1, R3, R35). -/
def ClockLaw (s : State) : Prop :=
  (∀ (n : Nat) (h : n < s.ticksToSchedule.length), s.ticksToSchedule[n] = s.schedule.now + BitVec.ofNat 32 (n + 1)) ∧
    s.timebase.value = s.schedule.now + BitVec.ofNat 32 s.ticksToSchedule.length

/-- R65: the due tick of a TIMED entry lies between now and the horizon. -/
def DueLaw (s : State) : Prop :=
  ∀ (i : SlotId) (e : Entry) (t : Tick), s.entry i = some e → e.state = .timed t →
    distance s.schedule.now t ≤ Config.horizon

end Sys2Proof.Machine
end

