-- ==== Sys2Proof/Certificates/Slice0/Obligations.lean ====
section
/-! DEFINITION. The statements about the model, one `Obligations.<Name>` each, listed in OBLIGATIONS.json. -/

open Sys2Proof Sys2Proof.Machine

/-! ### The queue of steps, time and reset -/

/-- A step takes the command at the front of the queue and is `exec` of it on the state with the rest of the queue. On
an empty queue the part idles (DESIGN CHOICE, log 3). -/
def Obligations.StepTakesTheFront : Prop :=
  (∀ (c : Instr) (s : State), step { s with pending := c :: s.pending } = exec c s) ∧
  (∀ s : State, s.pending = [] → step s = .next s)

/-- Every command answers a next state, and none touches the queue of steps. That a command with nothing to take answers
the state as it is, is the model's choice (DESIGN CHOICE, log 1), and so is the queue of steps, which every command
leaves alone (DESIGN CHOICE, log 3), RESET included (DEDUCED, log 27). -/
def Obligations.EveryCommandAnswersNext : Prop :=
  ∀ (c : Instr) (s : State), ∃ t, exec c s = .next t ∧ t.pending = s.pending

/-- The values after RESET that R7, R14, R40, R88, R89, R106, R122, R124, R144 and R159 state. The levels of the pins
and the end-of-tick mark of State.reset are the model's (logs 5 and 21) and are not stated. An assertion of RESET
answers a state in which RESET is asserted, every block holds its values after RESET, every port is DETACHED with
nothing under way, the attention output of every port is deasserted, and the pins and the queue of steps stand as
they stood (DEDUCED, log 27). The release of RESET makes each port RECOVERING with cause RESET where LINKP is present
and DETACHED where it is absent, and changes nothing else. A release without an asserted RESET changes nothing
(DESIGN CHOICE, log 1). -/
def Obligations.ResetSetsEveryBlock : Prop :=
  (State.reset.timebase = { value := 0, prescale := 1, intervalLength := 1, intervalCount := 0 } ∧
   (∀ i : Fin 16, State.reset.line i = { owner := none, level := false, safeLevel := false, policy := none, held := false }) ∧
   (∀ i : SlotId, State.reset.slot i = { generation := 0, entry := none }) ∧
   (∀ w : Fin 256, State.reset.store.words[w] = 0) ∧ (∀ k : Fin 8, State.reset.store.segments[k] = none) ∧
   (∀ k : Fin 4, State.reset.trigger.inputs[k] = { sampled := none, lastEdge := none, edgeCount := 0 }) ∧
   (∀ k : Fin 8, State.reset.trigger.places[k] = none) ∧
   (∀ p, (State.reset.port p).queue = { items := [], marker := none, attached := false }) ∧
   (∀ p, (State.reset.port p).link.path = .idle ∧ (State.reset.port p).link.priorLost = false ∧
     (State.reset.port p).link.discardedFrame = false) ∧
   (∀ p, (State.reset.port p).session =
     { state := .recovering .reset, attachedSinceReset := false, heartbeat := 0, lapseCount := none, departure := .none,
       orphan := false, parting := none, waiting := none, removed := false, asking := none })) ∧
  (∀ s : State, ∃ t, exec .resetAssertion s = .next t ∧ t.resetAsserted = true ∧ t.inputPins = s.inputPins ∧
     t.timebase = Timebase.reset ∧ (∀ i, t.line i = Line.reset) ∧ (∀ i, t.slot i = Slot.reset) ∧ t.schedule.now = 0 ∧
     t.store = PatternStore.reset ∧ t.trigger = TriggerUnit.reset ∧ t.ticksToSchedule = [] ∧ t.ticksToTrigger = [] ∧
     t.releaseRequests = [] ∧ t.endOfTickReports = [] ∧ t.scheduleToLines = [] ∧ t.pending = s.pending ∧
     ∀ p, t.port p = Port.reset (s.port p).link.linkp (s.port p).link.sel .detached ∧ t.attention p = false) ∧
  (∀ s : State,
     (s.resetAsserted = true → ∃ t, exec .resetRelease s = .next t ∧
       t = { s with resetAsserted := false, ports := t.ports } ∧
       ∀ p, t.port p = { s.port p with session := { (s.port p).session with
         state :=
           if (s.port p).link.linkp = true then .recovering .reset else .detached } }) ∧
     (s.resetAsserted = false → exec .resetRelease s = .next s))

/-- A REFCLK period inside the tick interval advances the interval count alone; one that makes the count reach the
interval length is the tick; while RESET is asserted neither is made. TICK is the REFCLK periods left in the interval,
taken one after the other (DEDUCED, log 6), when every taker has done its work of the tick before (DEDUCED, log 22). -/
def Obligations.RefclkPeriodsMakeTheTick : Prop :=
  (∀ (levels : BitVec 4) (s : State),
     (s.resetAsserted = false → s.timebase.intervalCount + 1 < s.timebase.intervalLength →
       exec (.refclkPeriod levels) s = .next { s with
         inputPins := levels
         timebase := { s.timebase with intervalCount := s.timebase.intervalCount + 1 } }) ∧
     (s.timebase.intervalLength ≤ s.timebase.intervalCount + 1 →
       exec (.refclkPeriod levels) s = exec (.tick levels) s) ∧
     (s.resetAsserted = true → exec (.refclkPeriod levels) s = .next s ∧ exec (.tick levels) s = .next s)) ∧
  (∀ (k : Nat) (levels : BitVec 4) (s : State), s.resetAsserted = false → TickSettled s →
     s.timebase.intervalCount + (k + 1) = s.timebase.intervalLength →
     runSteps (List.replicate (k + 1) (.refclkPeriod levels)) s = exec (.tick levels) s)

/-- At the tick the value advances by one modulo 2^32, the count returns to 0, the interval length takes the
prescale, and the new value is delivered to the schedule unit, to the trigger unit with the levels of T0 to T3, and
to each of the four session controllers; nothing else changes. The tick of t + 1 comes after the work of tick t (R3):
while a taker, the schedule unit, the trigger unit or a session controller, has still to take the tick before, or an
expiry, the end-of-tick report or a release request of that tick has still to be taken, no tick is made (that the
tick waits at the timebase is DEDUCED, log 22; that the step then leaves the state is a DESIGN CHOICE, log 1). -/
def Obligations.TickAdvancesAndIsDelivered : Prop :=
  (∀ (levels : BitVec 4) (s : State), s.resetAsserted = false → TickSettled s →
    ∃ t, exec (.tick levels) s = .next t ∧
    t.timebase = { value := s.timebase.value + 1, prescale := s.timebase.prescale,
                   intervalLength := s.timebase.prescale, intervalCount := 0 } ∧
    t.ticksToSchedule = s.ticksToSchedule ++ [s.timebase.value + 1] ∧
    t.ticksToTrigger = s.ticksToTrigger ++ [(s.timebase.value + 1, levels)] ∧
    (∀ p, t.port p = { s.port p with wires := { (s.port p).wires with
      ticks := (s.port p).wires.ticks ++ [s.timebase.value + 1] } }) ∧
    t = { s with inputPins := levels, timebase := t.timebase, ticksToSchedule := t.ticksToSchedule,
                 ticksToTrigger := t.ticksToTrigger, ports := t.ports }) ∧
  (∀ (levels : BitVec 4) (s : State),
    (s.ticksToSchedule ≠ [] ∨ s.ticksToTrigger ≠ [] ∨ (∃ p, (s.port p).wires.ticks ≠ []) ∨
      (∃ i e, s.entry i = some e ∧ e.state = .timed s.schedule.now) ∨ s.schedule.endOfTickTaken = false ∨
      ∃ r ∈ s.releaseRequests, r.tick = s.schedule.now) →
    exec (.tick levels) s = .next s)

/-- Distances: a value is not in its own future, a value is in the future at the distances 1 to 2^31 - 1, and of two
distinct values exactly one is in the future of the other unless they differ by 2^31. -/
def Obligations.DistanceDecidesTheFuture : Prop :=
  ∀ a b : Tick, inFuture a a = false ∧
    (inFuture a b = true ↔ 1 ≤ (b.toNat + (2 ^ 32 - a.toNat)) % 2 ^ 32 ∧ (b.toNat + (2 ^ 32 - a.toNat)) % 2 ^ 32 ≤ 2 ^ 31 - 1) ∧
    (a ≠ b →
      (inFuture a b = true ∧ inFuture b a = false ∧ b - a ≠ 0x80000000) ∨
      (inFuture a b = false ∧ inFuture b a = true ∧ b - a ≠ 0x80000000) ∨
      (inFuture a b = false ∧ inFuture b a = false ∧ b - a = 0x80000000))

/-- PRESCALE: the range, then the pending question, then the new divisor with the previous one and the timebase value as
results. The interval running keeps its length and count. -/
def Obligations.PrescaleNeedsAnEmptySchedule : Prop :=
  ∀ (p : PortId) (v : BitVec 24) (s : State), Requested s p (.prescale v) →
    ((v.toNat = 0 ∨ 65536 < v.toNat) → exec (.prescale p) s = .next (s.finish p .badArg .empty)) ∧
    (1 ≤ v.toNat → v.toNat ≤ 65536 → (∃ i, s.entry i ≠ none) → exec (.prescale p) s = .next (s.finish p .inUse .empty)) ∧
    (1 ≤ v.toNat → v.toNat ≤ 65536 → (∀ i, s.entry i = none) → exec (.prescale p) s = .next
      { s.finish p .ok (.prescale s.timebase.prescale s.timebase.value) with
        timebase := { s.timebase with prescale := v.toNat } })

/-- TIME answers OK with the timebase value and the prescale, and changes nothing but the request and its completion.
LINES, SEGMENTS, INPUTS, QUERY and LIST read one consistent view and change nothing but the request and its
completion: the first three here. SEGMENTS reports the number of words that no segment covers and the length of the
longest run of them; an ALLOC of up to that length is accepted while a record is free, and one beyond it is refused
NO_SPACE. -/
def Obligations.TablesAndTimeAreRead : Prop :=
  (∀ (p : PortId) (s : State), Requested s p .time →
     exec (.time p) s = .next (s.finish p .ok (.time s.timebase.value s.timebase.prescale))) ∧
  (∀ (p : PortId) (s : State),
     (Requested s p .lines → exec (.lines p) s = .next (s.finish p .ok (.lines s.lines))) ∧
     (Requested s p .segments → exec (.segments p) s = .next
       (s.finish p .ok (.segments s.store.segments s.store.unallocated s.store.longestHole))) ∧
     (Requested s p .inputs → exec (.inputs p) s = .next
       (s.finish p .ok (.inputs s.trigger.inputs s.trigger.places)))) ∧
  (∀ st : PatternStore,
     (∃ ws : List Nat, ws.Nodup ∧ (∀ w, w ∈ ws ↔ w < 256 ∧ Unallocated st w) ∧ st.unallocated = ws.length) ∧
     (∃ b, b + st.longestHole ≤ 256 ∧ ∀ w, b ≤ w → w < b + st.longestHole → Unallocated st w) ∧
     ∀ b n, b + n ≤ 256 → (∀ w, b ≤ w → w < b + n → Unallocated st w) → n ≤ st.longestHole) ∧
  (∀ (p : PortId) (n : BitVec 16) (s : State), Requested s p (.alloc n) → StoreLaw s → 1 ≤ n.toNat →
     n.toNat ≤ 256 → (∃ k : Fin 8, s.store.segments[k] = none) →
     (n.toNat ≤ s.store.longestHole → ∃ (k : Fin 8) (b : Nat), exec (.alloc p) s = .next { s.finish p .ok (.alloc k b) with
       store := { s.store with segments := s.store.segments.set k (some ⟨p, b, n.toNat⟩) } }) ∧
     (s.store.longestHole < n.toNat → exec (.alloc p) s = .next (s.finish p .noSpace .empty)))

/-- A block that completes a request takes it and sends one completion; a completion and a notice change one list of
one port and nothing else. The session controller sends its completion behind what it sent its port link controller
before (R160). That the completions of the other blocks to one port share one list, apart from that of the session
controller, is the model's choice (DESIGN CHOICE, log 12). -/
def Obligations.SendingChangesOneList : Prop :=
  ∀ (p : PortId) (s : State) (status : Status) (result : Result) (ns : List Notice) (n : Notice),
    s.finish p status result = s.withPort p { s.port p with wires := { (s.port p).wires with
      request := none, toLink := (s.port p).wires.toLink ++ [.completion ⟨status, result⟩] } } ∧
    s.reply p status result = s.withPort p ((s.port p).answered status result) ∧
    s.postSchedule p ns = s.withPort p { s.port p with wires := { (s.port p).wires with
      postsOfSchedule := (s.port p).wires.postsOfSchedule ++ ns } } ∧
    s.postTrigger p n = s.withPort p { s.port p with wires := { (s.port p).wires with
      postsOfTrigger := (s.port p).wires.postsOfTrigger ++ [n] } } ∧
    (∀ pt, (s.withPort p pt).port p = pt) ∧ ∀ pt q, q ≠ p → (s.withPort p pt).port q = s.port q

/-! ### The line table -/

/-- CLAIM refused: BAD_ARG for an empty set or a policy that is none of the three; then HELD, with exactly the lines
of the set that another port owns, held for release or not. A refusal changes no line. CLAIM accepted: every line of
the set becomes or stays the sender's with the new safe level and policy (00h HOLD, 01h FREEZE, 02h SAFE), no level
changes, the lines outside the set stay, and the result is the set of the lines that were unowned. -/
def Obligations.ClaimIsAllOrNothing : Prop :=
  (∀ (p : PortId) (ls : LineSet) (safeLevels : LevelSet) (policy : Byte) (s : State),
     Requested s p (.claim ls safeLevels policy) →
     ((ls = 0 ∨ 2 < policy.toNat) → exec (.claim p) s = .next (s.finish p .badArg .empty)) ∧
     (ls ≠ 0 → policy.toNat ≤ 2 → (∃ k q, hasLine ls k = true ∧ (s.line k).owner = some q ∧ q ≠ p) →
       ∃ conflict, exec (.claim p) s = .next (s.finish p .held (.held conflict)) ∧
         ∀ k, hasLine conflict k = true ↔ hasLine ls k = true ∧ ∃ q, (s.line k).owner = some q ∧ q ≠ p)) ∧
  (∀ (p : PortId) (ls : LineSet) (safeLevels : LevelSet) (policy : Byte) (pol : Policy) (s : State),
     Requested s p (.claim ls safeLevels policy) → ls ≠ 0 →
     ((policy = 0x00 ∧ pol = .hold) ∨ (policy = 0x01 ∧ pol = .freeze) ∨ (policy = 0x02 ∧ pol = .safe)) →
     (∀ k, hasLine ls k = true → (s.line k).owner = none ∨ (s.line k).owner = some p) →
     ∃ (records : Vector Line 16) (won : LineSet),
       exec (.claim p) s = .next { s.finish p .ok (.claim won) with lines := records } ∧
       (∀ k, hasLine won k = true ↔ hasLine ls k = true ∧ (s.line k).owner = none) ∧
       ∀ k : Fin 16, records[k] = if hasLine ls k = true
         then { s.line k with owner := some p, safeLevel := hasLine safeLevels k, policy := some pol } else s.line k)

/-- RELEASE: an empty set is refused BAD_ARG, then a line not owned by the sender NOT_OWNER; a refusal changes
nothing else. RELEASE accepted: every line of the set is marked held for release, the cancellation request goes to
the schedule unit, and no completion is sent yet. The completion of a RELEASE: each line of the released set still
owned by the sender and still held has its safe return, every other line stays, and the response carries the number
of entries cancelled. The replies of the schedule unit are taken in the order sent (R16). -/
def Obligations.ReleaseTakesTwoEvents : Prop :=
  (∀ (p : PortId) (ls : LineSet) (s : State), Requested s p (.release ls) →
     (ls = 0 → exec (.release p) s = .next (s.finish p .badArg .empty)) ∧
     (ls ≠ 0 → (∃ k, hasLine ls k = true ∧ (s.line k).owner ≠ some p) →
       exec (.release p) s = .next (s.finish p .notOwner .empty))) ∧
  (∀ (p : PortId) (ls : LineSet) (s : State), Requested s p (.release ls) → ls ≠ 0 →
     (∀ k, hasLine ls k = true → (s.line k).owner = some p) →
     ∃ records : Vector Line 16,
       exec (.release p) s = .next { s.withPort p { s.port p with
           releasing := some ls
           wires := { (s.port p).wires with request := none, releaseRequest := some ls } } with lines := records } ∧
       ∀ k : Fin 16, records[k] = if hasLine ls k = true then { s.line k with held := true } else s.line k) ∧
  (∀ (p : PortId) (ls : LineSet) (n : Nat) (rest : List LineReply) (s : State),
     s.scheduleToLines = .release p n :: rest → (s.port p).releasing = some ls →
     ∃ records : Vector Line 16,
       exec (.releaseCompletion p) s = .next { s.withPort p
           ({ s.port p with releasing := none }.sent .ok (.release n)) with lines := records, scheduleToLines := rest } ∧
       ∀ k : Fin 16, records[k] =
         if hasLine ls k = true ∧ (s.line k).owner = some p ∧ (s.line k).held = true then returned (s.line k) else s.line k)

/-- DRIVE: BAD_ARG for an empty set, NOT_OWNER when a line is not the sender's, and otherwise each line of the set takes
its level and nothing else changes; the response carries no result. -/
def Obligations.DriveSetsLevels : Prop :=
  ∀ (p : PortId) (ls : LineSet) (levels : LevelSet) (s : State), Requested s p (.drive ls levels) →
    (ls = 0 → exec (.drive p) s = .next (s.finish p .badArg .empty)) ∧
    (ls ≠ 0 → (∃ k, hasLine ls k = true ∧ (s.line k).owner ≠ some p) →
      exec (.drive p) s = .next (s.finish p .notOwner .empty)) ∧
    (ls ≠ 0 → (∀ k, hasLine ls k = true → (s.line k).owner = some p) →
      ∃ records : Vector Line 16, exec (.drive p) s = .next { s.finish p .ok .empty with lines := records } ∧
        ∀ k : Fin 16, records[k] = if hasLine ls k = true then { s.line k with level := hasLine levels k } else s.line k)

/-- A firing action: SET drives the lines of the set high, CLEAR low, TOGGLE inverts each, PATTERN gives each its
level in the word; the lines outside the set stay, no other field of a record changes, and nothing else of the state
does. The line table takes the requests of the schedule unit in the order sent (R16), and a firing action or an
ownership question within the event that sends it (R43, R67): while a reply waits there, no EXPIRY is taken, and no
SCHEDULE that has passed its argument checks (DEDUCED, log 11; that the step then leaves the state is a DESIGN
CHOICE, log 1). -/
def Obligations.FiringActionReachesTheSet : Prop :=
  (∀ (s : State) (ls : LineSet) (action : Action), ∃ records : Vector Line 16,
    s.applyFiring (action.firing s.store) ls = { s with lines := records } ∧
    ∀ k : Fin 16,
      (hasLine ls k = false → records[k] = s.line k) ∧
      (hasLine ls k = true → action = .set → records[k] = { s.line k with level := true }) ∧
      (hasLine ls k = true → action = .clear → records[k] = { s.line k with level := false }) ∧
      (hasLine ls k = true → action = .toggle → records[k] = { s.line k with level := !(s.line k).level }) ∧
      (hasLine ls k = true → ∀ seg pos, action = .pattern seg pos →
        records[k] = { s.line k with level := hasLine (s.store.word seg pos) k })) ∧
  (∀ (i : SlotId) (s : State), s.scheduleToLines ≠ [] → exec (.expiry i) s = .next s) ∧
  (∀ (p : PortId) (a : ScheduleArgs) (pl : Plan) (s : State), s.scheduleToLines ≠ [] →
     (s.port p).wires.request = some (.schedule a) → a.plan = some pl →
     (∀ seg pos g, pl.action = .pattern seg pos → s.store.segments[seg] = some g → pos < g.length) →
     exec (.schedule p) s = .next s)

/-- The orphan step: the request to the schedule unit names the port's FREEZE and SAFE lines, the SAFE set is kept,
and no line record changes. The orphan completion: each line of the kept SAFE set still owned by the port has its
safe return, every other line stays, and the reply goes to the session controller. The replies of the schedule unit
are taken in the order sent (R16). -/
def Obligations.OrphanProcessingAtTheLineTable : Prop :=
  (∀ (p : PortId) (more : List ToLines) (s : State), (s.port p).wires.toLines = .orphanStart :: more → ∃ named safe : LineSet,
     exec (.orphanStart p) s = .next (s.withPort p { s.port p with
       orphanSafe := some safe
       wires := { (s.port p).wires with toLines := more, orphanRequest := some named } }) ∧
     (∀ k, hasLine safe k = true ↔ (s.line k).owner = some p ∧ (s.line k).policy = some .safe) ∧
     (∀ k, hasLine named k = true ↔ (s.line k).owner = some p ∧
       ((s.line k).policy = some .freeze ∨ (s.line k).policy = some .safe))) ∧
  (∀ (p : PortId) (safe : LineSet) (rest : List LineReply) (s : State),
     s.scheduleToLines = .orphan p :: rest → (s.port p).orphanSafe = some safe →
     ∃ records : Vector Line 16,
       exec (.orphanCompletion p) s = .next { s.withPort p { s.port p with
           orphanSafe := none, wires := { (s.port p).wires with orphanReply := true } } with
           lines := records, scheduleToLines := rest } ∧
       ∀ k : Fin 16, records[k] =
         if hasLine safe k = true ∧ (s.line k).owner = some p then returned (s.line k) else s.line k)

/-- The steps 2, 3 and 4 of a parting: every line of the port has its safe return, every segment record of the port
becomes free with the words kept, every subscription of the port is removed without a notice; each replies with the
number it ended, and nothing else changes. -/
def Obligations.PartingStepsGiveEverythingBack : Prop :=
  (∀ (p : PortId) (more : List ToLines) (s : State), (s.port p).wires.toLines = .lineStep :: more →
    ∃ records : Vector Line 16,
      exec (.lineStep p) s = .next { s.withPort p { s.port p with wires := { (s.port p).wires with
          toLines := more
          partingReply := some ((List.finRange 16).countP fun k => decide ((s.line k).owner = some p)) } } with
          lines := records } ∧
      ∀ k : Fin 16, records[k] = if (s.line k).owner = some p then returned (s.line k) else s.line k) ∧
  ∀ (p : PortId) (pa : Parting) (s : State), (s.port p).wires.partingRequest = true → (s.port p).session.parting = some pa →
    (pa.step = .segments → ∃ records : Vector (Option Segment) 8,
      exec (.freeStep p) s = .next { s.withPort p { s.port p with wires := { (s.port p).wires with
          partingRequest := false
          partingReply := some ((List.finRange 8).countP fun k =>
            (s.store.segments[k]).any fun g => decide (g.owner = p)) } } with
          store := { s.store with segments := records } } ∧
      ∀ k : Fin 8, ((∃ g, s.store.segments[k] = some g ∧ g.owner = p) → records[k] = none) ∧
        ((∀ g, s.store.segments[k] = some g → g.owner ≠ p) → records[k] = s.store.segments[k])) ∧
    (pa.step = .subscriptions → ∃ places : Vector (Option Subscription) 8,
      exec (.subscriptionStep p) s = .next { s.withPort p { s.port p with wires := { (s.port p).wires with
          partingRequest := false
          partingReply := some ((List.finRange 8).countP fun k =>
            (s.trigger.places[k]).any fun sub => decide (sub.port = p)) } } with
          trigger := { s.trigger with places := places } } ∧
      ∀ k : Fin 8, ((∃ sub, s.trigger.places[k] = some sub ∧ sub.port = p) → places[k] = none) ∧
        ((∀ sub, s.trigger.places[k] = some sub → sub.port ≠ p) → places[k] = s.trigger.places[k]))

/-! ### The pattern store -/

/-- ALLOC refused: BAD_ARG for a length outside 1 to 256, then FULL when no record is free, then NO_SPACE when no run of
that many words lies within the store and unallocated. A refusal changes no record and no word. ALLOC accepted: the
lowest base at which the words lie within the store and are unallocated, in the lowest-numbered free record, with the
sender as owner; no word changes. -/
def Obligations.AllocTakesTheFirstFit : Prop :=
  (∀ (p : PortId) (n : BitVec 16) (s : State), Requested s p (.alloc n) →
     ((n.toNat = 0 ∨ 256 < n.toNat) → exec (.alloc p) s = .next (s.finish p .badArg .empty)) ∧
     (1 ≤ n.toNat → n.toNat ≤ 256 → (∀ k : Fin 8, s.store.segments[k] ≠ none) →
       exec (.alloc p) s = .next (s.finish p .full .empty)) ∧
     (1 ≤ n.toNat → n.toNat ≤ 256 → (∃ k : Fin 8, s.store.segments[k] = none) →
       (∀ b, b + n.toNat ≤ 256 → ∃ (k : Fin 8) (g : Segment), s.store.segments[k] = some g ∧
         ¬ (b + n.toNat ≤ g.base ∨ g.base + g.length ≤ b)) →
       exec (.alloc p) s = .next (s.finish p .noSpace .empty))) ∧
  (∀ (p : PortId) (n : BitVec 16) (k : Fin 8) (b : Nat) (s : State), Requested s p (.alloc n) →
     1 ≤ n.toNat → n.toNat ≤ 256 → s.store.segments[k] = none → (∀ j : Fin 8, j < k → s.store.segments[j] ≠ none) →
     b + n.toNat ≤ 256 →
     (∀ (j : Fin 8) (g : Segment), s.store.segments[j] = some g → b + n.toNat ≤ g.base ∨ g.base + g.length ≤ b) →
     (∀ b', b' < b → ∃ (j : Fin 8) (g : Segment), s.store.segments[j] = some g ∧
       ¬ (b' + n.toNat ≤ g.base ∨ g.base + g.length ≤ b')) →
     exec (.alloc p) s = .next { s.finish p .ok (.alloc k b) with
       store := { s.store with segments := s.store.segments.set k (some ⟨p, b, n.toNat⟩) } })

/-- FREE: BAD_ARG for a number above 7, NOT_OWNER for a free record or another port's, IN_USE while a pending PATTERN
entry names the segment; a refusal changes nothing else. FREE accepted: the record becomes free, the words keep their
levels, and the results are the base and the length. -/
def Obligations.FreeFreesAnUnreferencedSegment : Prop :=
  (∀ (p : PortId) (b : Byte) (s : State), Requested s p (.free b) →
     (7 < b.toNat → exec (.free p) s = .next (s.finish p .badArg .empty)) ∧
     (∀ k : Fin 8, b.toNat = k.val →
       ((∀ g, s.store.segments[k] = some g → g.owner ≠ p) → exec (.free p) s = .next (s.finish p .notOwner .empty)) ∧
       ∀ g, s.store.segments[k] = some g → g.owner = p →
         (∃ i e pos, s.entry i = some e ∧ e.action = .pattern k pos) →
         exec (.free p) s = .next (s.finish p .inUse .empty))) ∧
  (∀ (p : PortId) (b : Byte) (k : Fin 8) (g : Segment) (s : State), Requested s p (.free b) →
     b.toNat = k.val → s.store.segments[k] = some g → g.owner = p →
     (∀ i e pos, s.entry i = some e → e.action ≠ .pattern k pos) →
     exec (.free p) s = .next { s.finish p .ok (.free g.base g.length) with
       store := { s.store with segments := s.store.segments.set k none } })

/-- LOAD refused: BAD_ARG for a number above 7, for no word or more than 32, and for a run beyond the segment's end
(beyond 256 for a free record); then NOT_OWNER. A refused LOAD writes nothing. LOAD accepted: the words given stand
in the store from base + offset on, every other word keeps its levels, the record is not changed, and the response
carries no result. -/
def Obligations.LoadWritesWithinTheSegment : Prop :=
  (∀ (p : PortId) (b offset : Byte) (ws : List LevelSet) (s : State),
     Requested s p (.load b offset ws) →
     ((7 < b.toNat ∨ ws.length = 0 ∨ 32 < ws.length) → exec (.load p) s = .next (s.finish p .badArg .empty)) ∧
     (∀ k : Fin 8, b.toNat = k.val → 1 ≤ ws.length → ws.length ≤ 32 →
       (∀ g, s.store.segments[k] = some g → g.length < offset.toNat + ws.length →
         exec (.load p) s = .next (s.finish p .badArg .empty)) ∧
       (∀ g, s.store.segments[k] = some g → offset.toNat + ws.length ≤ g.length → g.owner ≠ p →
         exec (.load p) s = .next (s.finish p .notOwner .empty)) ∧
       (s.store.segments[k] = none → 256 < offset.toNat + ws.length →
         exec (.load p) s = .next (s.finish p .badArg .empty)) ∧
       (s.store.segments[k] = none → offset.toNat + ws.length ≤ 256 →
         exec (.load p) s = .next (s.finish p .notOwner .empty)))) ∧
  (∀ (p : PortId) (b offset : Byte) (ws : List LevelSet) (k : Fin 8) (g : Segment) (s : State),
     Requested s p (.load b offset ws) → b.toNat = k.val → s.store.segments[k] = some g → g.owner = p →
     1 ≤ ws.length → ws.length ≤ 32 → offset.toNat + ws.length ≤ g.length → g.base + g.length ≤ 256 →
     ∃ words : Vector LevelSet 256,
       exec (.load p) s = .next { s.finish p .ok .empty with store := { s.store with words := words } } ∧
       (∀ (i : Nat) (h : i < ws.length) (w : Fin 256), w.val = g.base + offset.toNat + i → words[w] = ws[i]) ∧
       ∀ w : Fin 256, (w.val < g.base + offset.toNat ∨ g.base + offset.toNat + ws.length ≤ w.val) →
         words[w] = s.store.words[w])

/-- The word question: the word at base + position of an allocated segment, for a position below its length. The
position after a PATTERN firing: one further, and 0 at the segment's length; the other actions stay. -/
def Obligations.PatternFiringsReadAndAdvance : Prop :=
  (∀ (st : PatternStore) (seg : Fin 8) (g : Segment) (pos : Nat) (w : Fin 256), st.segments[seg] = some g →
     pos < g.length → w.val = g.base + pos → st.word seg pos = st.words[w]) ∧
  (∀ (st : PatternStore) (seg : Fin 8) (pos : Nat) (g : Segment), st.segments[seg] = some g → pos < g.length →
     (pos + 1 = g.length → (Action.pattern seg pos).advanced st = .pattern seg 0) ∧
     (pos + 1 ≠ g.length → (Action.pattern seg pos).advanced st = .pattern seg (pos + 1)) ∧
     Action.set.advanced st = .set ∧ Action.clear.advanced st = .clear ∧ Action.toggle.advanced st = .toggle)

/-! ### The schedule unit -/

/-- A SCHEDULE with an argument out of range is refused BAD_ARG: each case of R44, the position of R45 included. One
whose arguments are in range has the plan that they give, field by field; arguments not used in the mode or action
are not looked at. The six bytes of the mode area carry the fields of R181. A SCHEDULE in range is refused NOT_OWNER
when a line of its set is not the sender's or is held for release, or its segment is free or another port's; then
FULL when no slot is FREE. The ownership question comes after the replies sent to the line table before it (R16;
DEDUCED, log 11). -/
def Obligations.ScheduleChecksBeforeItsTime : Prop :=
  (∀ (p : PortId) (a : ScheduleArgs) (s : State), Requested s p (.schedule a) →
     (2 < a.mode.toNat ∨ a.lines = 0 ∨ 3 < a.action.toNat ∨ 2 < a.notify.toNat ∨ (a.count ≠ 1 ∧ a.interval = 0) ∨
       (a.mode = 0 ∧ 1 < a.areaLate.toNat) ∨
       (a.mode = 1 ∧ (a.areaTick.toNat = 0 ∨ 2 ^ 31 ≤ a.areaTick.toNat)) ∨
       (a.mode = 2 ∧ (3 < a.areaInput.toNat ∨ 2 < a.areaSelection.toNat ∨ a.areaOffset = 0)) ∨
       (a.action = 3 ∧ (7 < a.segment.toNat ∨
         ∃ (k : Fin 8) (g : Segment), a.segment.toNat = k.val ∧ s.store.segments[k] = some g ∧ g.length ≤ a.position.toNat))) →
     exec (.schedule p) s = .next (s.finish p .badArg .empty)) ∧
  (∀ (a : ScheduleArgs) (mode : Mode) (action : Action) (notify : Notify), a.lines ≠ 0 → (a.count = 1 ∨ a.interval ≠ 0) →
     ((a.mode = 0 ∧ ((a.areaLate = 0 ∧ mode = .absolute a.areaTick .refuse) ∨
         (a.areaLate = 1 ∧ mode = .absolute a.areaTick .fireNow))) ∨
       (a.mode = 1 ∧ 1 ≤ a.areaTick.toNat ∧ a.areaTick.toNat < 2 ^ 31 ∧ mode = .relative a.areaTick) ∨
       (a.mode = 2 ∧ a.areaOffset ≠ 0 ∧ ∃ (k : InputId) (sel : EdgeSelection), a.areaInput.toNat = k.val ∧
         ((a.areaSelection = 0 ∧ sel = .rise) ∨ (a.areaSelection = 1 ∧ sel = .fall) ∨ (a.areaSelection = 2 ∧ sel = .either)) ∧
         mode = .trigger k sel a.areaOffset)) →
     ((a.action = 0 ∧ action = .set) ∨ (a.action = 1 ∧ action = .clear) ∨ (a.action = 2 ∧ action = .toggle) ∨
       (a.action = 3 ∧ ∃ k : Fin 8, a.segment.toNat = k.val ∧ action = .pattern k a.position.toNat)) →
     ((a.notify = 0 ∧ notify = .none) ∨ (a.notify = 1 ∧ notify = .last) ∨ (a.notify = 2 ∧ notify = .each)) →
     a.plan = some {
       mode := mode, label := a.label, lines := a.lines, action := action,
       remaining := if a.count = 0 then .unbounded else .counted a.count.toNat,
       interval := if a.count = 1 then none else some a.interval, notify := notify }) ∧
  (∀ (a : ScheduleArgs) (b15 b16 b17 b18 b19 b20 : Byte), a.area = b15 ++ b16 ++ b17 ++ b18 ++ b19 ++ b20 →
     a.areaTick = b15 ++ b16 ++ b17 ++ b18 ∧ a.areaLate = b19 ∧ a.areaInput = b15 ∧ a.areaSelection = b16 ∧
     a.areaOffset = b17 ++ b18 ++ b19) ∧
  (∀ (p : PortId) (a : ScheduleArgs) (pl : Plan) (s : State), Requested s p (.schedule a) →
     a.plan = some pl → s.scheduleToLines = [] →
     (∀ seg pos g, pl.action = .pattern seg pos → s.store.segments[seg] = some g → pos < g.length) →
     (((∃ k, hasLine pl.lines k = true ∧ ((s.line k).owner ≠ some p ∨ (s.line k).held = true)) ∨
         (∃ seg pos, pl.action = .pattern seg pos ∧ ∀ g, s.store.segments[seg] = some g → g.owner ≠ p)) →
       exec (.schedule p) s = .next (s.finish p .notOwner .empty)) ∧
     ((∀ k, hasLine pl.lines k = true → (s.line k).owner = some p ∧ (s.line k).held = false) →
       (∀ seg pos, pl.action = .pattern seg pos → ∃ g, s.store.segments[seg] = some g ∧ g.owner = p) →
       (∀ i, s.entry i ≠ none) →
       exec (.schedule p) s = .next (s.finish p .full .empty)))

/-- An admitted SCHEDULE is one that passes the checks of R44 to R47 and comes after the replies sent to the line
table before its ownership question (DEDUCED, log 11). In RELATIVE mode it takes due tick now + offset, one in
ABSOLUTE mode with a due tick in the future that due tick: DUPLICATE when a TIMED entry on a shared line holds it, and
otherwise a TIMED entry in the lowest FREE slot with the fields of R53. Nothing else changes. An admitted SCHEDULE in
TRIGGER mode: DUPLICATE when a WAITING entry of the same input and offset shares a line, and otherwise a WAITING
entry, marked newly joined, in the lowest FREE slot. -/
def Obligations.ScheduleCreatesEntries : Prop :=
  (∀ (p : PortId) (a : ScheduleArgs) (pl : Plan) (i : SlotId) (s : State), Admitted s p a pl i →
     ∀ (due : Tick) (late : Option LatePolicy),
       ((∃ offset, pl.mode = .relative offset ∧ due = s.schedule.now + offset ∧ late = none) ∨
         (∃ policy, pl.mode = .absolute due policy ∧ inFuture s.schedule.now due = true ∧ late = some policy)) →
       ((∃ j, HoldsDue s j pl.lines due) → exec (.schedule p) s = .next (s.finish p .duplicate .empty)) ∧
       ((∀ j, ¬ HoldsDue s j pl.lines due) →
         exec (.schedule p) s = .next
           ((s.setSlot i { generation := (s.slot i).generation, entry := some {
               port := p, label := pl.label, lines := pl.lines, action := pl.action, state := .timed due,
               remaining := pl.remaining, interval := pl.interval, notify := pl.notify, latePolicy := late } }).finish p .ok
             (.schedule ⟨i, (s.slot i).generation⟩ .timed (some due))))) ∧
  (∀ (p : PortId) (a : ScheduleArgs) (pl : Plan) (i : SlotId) (input : InputId) (sel : EdgeSelection) (offset : BitVec 24)
     (s : State), Admitted s p a pl i → pl.mode = .trigger input sel offset →
       ((∃ j, WaitsWith s j pl.lines input offset) → exec (.schedule p) s = .next (s.finish p .duplicate .empty)) ∧
       ((∀ j, ¬ WaitsWith s j pl.lines input offset) →
         exec (.schedule p) s = .next
           ((s.setSlot i { generation := (s.slot i).generation, entry := some {
               port := p, label := pl.label, lines := pl.lines, action := pl.action,
               state := .waiting input sel offset true, remaining := pl.remaining, interval := pl.interval,
               notify := pl.notify, latePolicy := none } }).finish p .ok
             (.schedule ⟨i, (s.slot i).generation⟩ .waiting none))))

/-- An admitted ABSOLUTE SCHEDULE whose due tick is not in the future: REFUSE gives LATE with now; FIRE_NOW fires at now
with the late flag and ends when its count is 1, and otherwise is refused DUPLICATE before the firing when now +
interval is held, or fires and stands TIMED at now + interval. Admitted: no reply waits at the line table before its
ownership question (DEDUCED, log 11). -/
def Obligations.LateSchedulesFollowTheirPolicy : Prop :=
  ∀ (p : PortId) (a : ScheduleArgs) (pl : Plan) (i : SlotId) (due : Tick) (s : State), Admitted s p a pl i →
    inFuture s.schedule.now due = false →
    (pl.mode = .absolute due .refuse → exec (.schedule p) s = .next (s.finish p .late (.late s.schedule.now))) ∧
    (pl.mode = .absolute due .fireNow →
      let driven := s.applyFiring (pl.action.firing s.store) pl.lines
      (pl.remaining = .counted 1 →
        exec (.schedule p) s = .next
          (((driven.setSlot i { generation := (s.slot i).generation + 1, entry := none }).postSchedule p
            (if pl.notify = .none then [] else [.done ⟨i, (s.slot i).generation⟩ pl.label s.schedule.now true])).finish p .ok
              (.schedule ⟨i, (s.slot i).generation⟩ .ended none))) ∧
      ∀ (r : Remaining) (iv : BitVec 24),
        ((∃ n, pl.remaining = .counted (n + 2) ∧ r = .counted (n + 1)) ∨ (pl.remaining = .unbounded ∧ r = .unbounded)) →
        pl.interval = some iv →
        ((∃ j, HoldsDue s j pl.lines (s.schedule.now + iv.setWidth 32)) →
          exec (.schedule p) s = .next (s.finish p .duplicate .empty)) ∧
        ((∀ j, ¬ HoldsDue s j pl.lines (s.schedule.now + iv.setWidth 32)) →
          exec (.schedule p) s = .next
            (((driven.setSlot i { generation := (s.slot i).generation, entry := some {
                port := p, label := pl.label, lines := pl.lines, action := pl.action.advanced s.store,
                state := .timed (s.schedule.now + iv.setWidth 32), remaining := r, interval := some iv,
                notify := pl.notify, latePolicy := some .fireNow } }).postSchedule p
              (if pl.notify = .each then [.fired ⟨i, (s.slot i).generation⟩ pl.label s.schedule.now r true] else [])).finish
                p .ok (.schedule ⟨i, (s.slot i).generation⟩ .timed (some (s.schedule.now + iv.setWidth 32))))))

/-- A handle resolves alike for CANCEL and QUERY: BAD_ARG for a slot number above 63, NOT_FOUND for a FREE slot or
another generation, NOT_OWNER for another port's entry. CANCEL ends the sender's entry without a notice, with its
remaining count and state as results; QUERY reports the entry and changes nothing but the request and its completion. -/
def Obligations.HandlesNameEntries : Prop :=
  (∀ (p : PortId) (slot gen : Byte) (c : Instr) (s : State),
     ((Requested s p (.cancel slot gen) ∧ c = .cancel p) ∨
       (Requested s p (.query slot gen) ∧ c = .query p)) →
     (63 < slot.toNat → exec c s = .next (s.finish p .badArg .empty)) ∧
     (∀ i : SlotId, slot.toNat = i.val →
       ((s.entry i = none ∨ (s.slot i).generation ≠ gen) → exec c s = .next (s.finish p .notFound .empty)) ∧
       (∀ e, s.entry i = some e → (s.slot i).generation = gen → e.port ≠ p →
         exec c s = .next (s.finish p .notOwner .empty)) ∧
       (∀ e, s.entry i = some e → (s.slot i).generation = gen → e.port = p →
         ∃ t result, exec c s = .next t ∧ (t.port p).wires.toLink = (s.port p).wires.toLink ++ [.completion ⟨.ok, result⟩]))) ∧
  (∀ (p : PortId) (slot gen : Byte) (i : SlotId) (e : Entry) (s : State), slot.toNat = i.val → s.entry i = some e →
     (s.slot i).generation = gen → e.port = p →
     (Requested s p (.cancel slot gen) →
       exec (.cancel p) s = .next
         ((s.setSlot i { generation := gen + 1, entry := none }).finish p .ok (.cancel e.remaining
           (match e.state with
            | .timed _ => .timed
            | .waiting _ _ _ _ => .waiting)))) ∧
     (Requested s p (.query slot gen) →
       exec (.query p) s = .next (s.finish p .ok (.query ⟨i, gen⟩ e))))

/-- LIST: BAD_ARG for an index above 63; otherwise the number of the port's pending entries and, from the index on,
up to twelve of them: the TIMED ones first by distance from now and then by slot, then the WAITING ones by slot, each
with its due tick, which is present exactly when the entry is TIMED. Nothing else changes. -/
def Obligations.ListReportsInOrder : Prop :=
  (∀ (i : SlotId) (d : Tick) (s : State), s.dueOf i = some d ↔ ∃ e, s.entry i = some e ∧ e.state = .timed d) ∧
  ∀ (p : PortId) (k : Byte) (s : State), Requested s p (.list k) →
    (63 < k.toNat → exec (.list p) s = .next (s.finish p .badArg .empty)) ∧
    (k.toNat ≤ 63 → ∃ order : List SlotId,
      exec (.list p) s = .next (s.finish p .ok (.list order.length
        (((order.drop k.toNat).take 12).map fun i => ⟨⟨i, (s.slot i).generation⟩, s.dueOf i⟩))) ∧
      order.Nodup ∧ (∀ i, i ∈ order ↔ ∃ e, s.entry i = some e ∧ e.port = p) ∧
      order.Pairwise fun i j =>
        match s.dueOf i, s.dueOf j with
        | some d, some d' => distance s.schedule.now d < distance s.schedule.now d' ∨
            (distance s.schedule.now d = distance s.schedule.now d' ∧ i < j)
        | some _, none => True
        | none, some _ => False
        | none, none => i < j)

/-- EXPIRY of an entry that has fallen due, in the order of R67: the firing action; then the ending with DONE when it
was the final firing; otherwise the next due tick, with FIRED under EACH; or, when another entry on a shared line
holds that tick, the ending with cause COLLIDED after the FIRED. Nothing else changes, and the late flag is clear. It
is taken when the line table has taken the replies sent before it (R16; DEDUCED, log 11). An entry that has not
fallen due has no expiry: the step leaves the state as it is (DESIGN CHOICE, log 1). -/
def Obligations.ExpiryFiresTheEntry : Prop :=
  (∀ (i : SlotId) (e : Entry) (s : State), s.entry i = some e → e.state = .timed s.schedule.now → s.scheduleToLines = [] →
     let driven := s.applyFiring (e.action.firing s.store) e.lines
     let h : Handle := ⟨i, (s.slot i).generation⟩
     (e.remaining = .counted 1 →
       exec (.expiry i) s = .next
         ((driven.setSlot i { generation := (s.slot i).generation + 1, entry := none }).postSchedule e.port
           (if e.notify = .none then [] else [.done h e.label s.schedule.now false]))) ∧
     ∀ (r : Remaining) (iv : BitVec 24),
       ((∃ n, e.remaining = .counted (n + 2) ∧ r = .counted (n + 1)) ∨ (e.remaining = .unbounded ∧ r = .unbounded)) →
       e.interval = some iv →
       ((∀ j, j ≠ i → ¬ HoldsDue s j e.lines (s.schedule.now + iv.setWidth 32)) →
         exec (.expiry i) s = .next
           ((driven.setSlot i { generation := (s.slot i).generation, entry := some { e with
               action := e.action.advanced s.store, state := .timed (s.schedule.now + iv.setWidth 32),
               remaining := r } }).postSchedule e.port
             (if e.notify = .each then [.fired h e.label s.schedule.now r false] else []))) ∧
       ((∃ j, j ≠ i ∧ HoldsDue s j e.lines (s.schedule.now + iv.setWidth 32)) →
         exec (.expiry i) s = .next
           ((driven.setSlot i { generation := (s.slot i).generation + 1, entry := none }).postSchedule e.port
             ((if e.notify = .each then [.fired h e.label s.schedule.now r false] else []) ++
               (if e.notify = .none then [] else [.cancelled h e.label s.schedule.now r .collided]))))) ∧
  (∀ (i : SlotId) (s : State), (∀ e, s.entry i = some e → e.state ≠ .timed s.schedule.now) → exec (.expiry i) s = .next s)

/-- The schedule unit takes the next tick when the work of the tick before is done: no expiry of now is left, the
end-of-tick report of now has been taken and no release request of now waits. Then now becomes the tick, every newly
joined mark is cleared, and nothing else changes. Otherwise the tick waits. The schedule unit takes the end-of-tick
report of now; a report of another tick waits. That a tick or a report taken early leaves the state as it is, is the
model's choice (DESIGN CHOICE, log 1). -/
def Obligations.TickFollowsTheWorkBeforeIt : Prop :=
  (∀ (d : Tick) (rest : List Tick) (s : State), s.ticksToSchedule = d :: rest → WorkDone s →
     ∃ slots : Vector Slot 64,
       exec .scheduleUnitTick s = .next { s with
         ticksToSchedule := rest, schedule := { now := d, slots := slots, endOfTickTaken := false } } ∧
       ∀ i : SlotId, slots[i].generation = (s.slot i).generation ∧
         (s.entry i = none → slots[i].entry = none) ∧
         (∀ e due, s.entry i = some e → e.state = .timed due → slots[i].entry = some e) ∧
         ∀ e k sel offset mark, s.entry i = some e → e.state = .waiting k sel offset mark →
           slots[i].entry = some { e with state := .waiting k sel offset false }) ∧
  (∀ s : State, ((∃ i e, s.entry i = some e ∧ e.state = .timed s.schedule.now) ∨ s.schedule.endOfTickTaken = false ∨
       ∃ r ∈ s.releaseRequests, r.tick = s.schedule.now) →
     exec .scheduleUnitTick s = .next s) ∧
  (∀ (d : Tick) (rest : List Tick) (s : State), s.endOfTickReports = d :: rest →
     (d = s.schedule.now → exec .endOfTickReport s = .next { s with
       endOfTickReports := rest, schedule := { s.schedule with endOfTickTaken := true } }) ∧
     (d ≠ s.schedule.now → exec .endOfTickReport s = .next s))

/-- RELEASE_REQUEST takes the request of its input captured at now and gives each slot its turn in ascending order. The
turn of one slot: a WAITING entry of the request's input whose selection admits the direction and that is not newly
joined becomes TIMED at the capture tick plus its offset, or ends COLLIDED when that tick is held on a shared line;
every other slot is passed over: a FREE one, a TIMED entry and a WAITING entry that the request does not match. -/
def Obligations.ReleaseRequestsSetDueTicks : Prop :=
  (∀ (k : InputId) (r : ReleaseRequest) (before after : List ReleaseRequest) (s : State),
     s.releaseRequests = before ++ r :: after → r.input = k → r.tick = s.schedule.now →
     (∀ r' ∈ before, r'.input = k → r'.tick ≠ s.schedule.now) →
     exec (.releaseRequest k) s = .next
       ((List.finRange 64).foldl (State.releaseSlot r) { s with releaseRequests := before ++ after })) ∧
  (∀ (r : ReleaseRequest) (i : SlotId) (s : State),
     (s.entry i = none ∨ ∃ e due, s.entry i = some e ∧ e.state = .timed due) → State.releaseSlot r s i = s) ∧
  (∀ (r : ReleaseRequest) (i : SlotId) (e : Entry) (k : InputId) (sel : EdgeSelection) (offset : BitVec 24) (mark : Bool)
     (s : State), s.entry i = some e → e.state = .waiting k sel offset mark →
     let due := r.tick + offset.setWidth 32
     let admits := k = r.input ∧ mark = false ∧
       (sel = .either ∨ (sel = .rise ∧ r.direction = .rise) ∨ (sel = .fall ∧ r.direction = .fall))
     (¬ admits → State.releaseSlot r s i = s) ∧
     (admits → (∀ j, ¬ HoldsDue s j e.lines due) →
       State.releaseSlot r s i = s.setSlot i { generation := (s.slot i).generation,
                                               entry := some { e with state := .timed due } }) ∧
     (admits → (∃ j, HoldsDue s j e.lines due) →
       State.releaseSlot r s i = (s.setSlot i { generation := (s.slot i).generation + 1, entry := none }).postSchedule
         e.port (if e.notify = .none then []
                 else [.cancelled ⟨i, (s.slot i).generation⟩ e.label r.tick e.remaining .collided])))

/-- The three cancellation requests end exactly the port's entries that meet the named set (every entry of the port
for a parting), post a CANCELLED notice for each whose notify mode is not NONE in ascending slot order (none for a
parting), and reply, with the number ended for a RELEASE and a parting. -/
def Obligations.CancellationRequestsEndTheirEntries : Prop :=
  ∀ (p : PortId) (s : State),
    let touched (ls : LineSet) (e : Entry) : Prop := e.port = p ∧ Meets e.lines ls
    let notices (ls : LineSet) (cause : CancelCause) : List Notice := (List.finRange 64).flatMap fun i =>
      match s.entry i with
      | some e => if decide (e.port = p) && sharesLine e.lines ls && decide (e.notify ≠ .none)
          then [.cancelled ⟨i, (s.slot i).generation⟩ e.label s.schedule.now e.remaining cause] else []
      | none => []
    (∀ ls, (s.port p).wires.releaseRequest = some ls → ∃ slots : Vector Slot 64,
      let t : State := { s.withPort p { s.port p with wires := { (s.port p).wires with
          releaseRequest := none
          postsOfSchedule := (s.port p).wires.postsOfSchedule ++ notices ls .released } } with
        schedule := { s.schedule with slots := slots }
        scheduleToLines := s.scheduleToLines ++ [.release p ((List.finRange 64).countP fun i =>
          (s.entry i).any fun e => decide (e.port = p) && sharesLine e.lines ls)] }
      exec (.releaseCancellationRequest p) s = .next t ∧ EndsMatching s t (touched ls)) ∧
    (∀ ls, (s.port p).wires.orphanRequest = some ls → ∃ slots : Vector Slot 64,
      let t : State := { s.withPort p { s.port p with wires := { (s.port p).wires with
          orphanRequest := none
          postsOfSchedule := (s.port p).wires.postsOfSchedule ++ notices ls .orphaned } } with
        schedule := { s.schedule with slots := slots }
        scheduleToLines := s.scheduleToLines ++ [.orphan p] }
      exec (.orphanRequest p) s = .next t ∧ EndsMatching s t (touched ls)) ∧
    ((s.port p).wires.partingRequest = true → (∃ pa, (s.port p).session.parting = some pa ∧ pa.step = .entries) →
      ∃ slots : Vector Slot 64,
      let t : State := { s.withPort p { s.port p with wires := { (s.port p).wires with
          partingRequest := false
          partingReply := some ((List.finRange 64).countP fun i => (s.entry i).any fun e => decide (e.port = p)) } } with
        schedule := { s.schedule with slots := slots } }
      exec (.partingRequest p) s = .next t ∧ EndsMatching s t (fun e => e.port = p))

/-! ### The trigger unit -/

/-- The tick at the trigger unit: each input takes its sample, and a sample different from the one before gives an
edge with the capture tick, a direction and one more count, and a release request in the order T0 to T3; the first
sample after RESET gives none. T0 to T3 have their turns one after the other: at an edge the record is written, then
the eight subscription places have their turns in ascending order, then the release request is sent. The end-of-tick
report follows. The other blocks and the other messages stay as they were. -/
def Obligations.TriggerUnitSamplesTheInputs : Prop :=
  (∀ (d : Tick) (levels : BitVec 4) (rest : List (Tick × BitVec 4)) (s : State),
    s.ticksToTrigger = (d, levels) :: rest →
      let turns := (List.finRange 4).foldl (State.inputTick levels d) { s with ticksToTrigger := rest }
      ∃ t, exec .triggerUnitTick s = .next t ∧
      t = { turns with endOfTickReports := s.endOfTickReports ++ [d] } ∧
      (∀ k : InputId, t.trigger.inputs[k] =
        let old := s.trigger.inputs[k]
        let level := levels.getLsbD k.val
        if old.sampled = none ∨ old.sampled = some level then { old with sampled := some level }
        else { sampled := some level, lastEdge := some (d, if level = true then .rise else .fall),
               edgeCount := old.edgeCount + 1 }) ∧
      t.releaseRequests = s.releaseRequests ++ (List.finRange 4).filterMap (fun k =>
        if s.trigger.inputs[k].sampled = some (!levels.getLsbD k.val)
        then some ⟨k, if levels.getLsbD k.val = true then .rise else .fall, d⟩ else none) ∧
      (∀ p, ∃ posts, t.port p = { s.port p with wires := { (s.port p).wires with postsOfTrigger := posts } }) ∧
      t = { s with ticksToTrigger := rest, trigger := t.trigger, releaseRequests := t.releaseRequests,
                   endOfTickReports := t.endOfTickReports, ports := t.ports }) ∧
  (∀ (d : Tick) (levels : BitVec 4) (k : InputId) (s : State),
    let old := s.trigger.inputs[k]
    let level := levels.getLsbD k.val
    let direction : Direction := if level = true then .rise else .fall
    let recorded (r : Input) : State := { s with trigger := { s.trigger with inputs := s.trigger.inputs.set k r } }
    ((old.sampled = none ∨ old.sampled = some level) →
      State.inputTick levels d s k = recorded { old with sampled := some level }) ∧
    (old.sampled = some (!level) →
      let posted := (List.finRange 8).foldl (State.notifyPlace k direction d)
        (recorded { sampled := some level, lastEdge := some (d, direction), edgeCount := old.edgeCount + 1 })
      State.inputTick levels d s k = { posted with releaseRequests := posted.releaseRequests ++ [⟨k, direction, d⟩] }))

/-- The turn of one subscription at an edge: a matching one posts one CAPTURED notice to its port, counted down by
one if it is counted, and the notice that takes the count from 1 to 0 is final and frees the place; any other is
untouched. -/
def Obligations.SubscriptionsReportAndCountDown : Prop :=
  ∀ (k : InputId) (d : Direction) (tk : Tick) (n : Fin 8) (sub : Subscription) (s : State),
    s.trigger.places[n] = some sub →
    let admits := sub.input = k ∧
      (sub.selection = .either ∨ (sub.selection = .rise ∧ d = .rise) ∨ (sub.selection = .fall ∧ d = .fall))
    let with' (o : Option Subscription) : State :=
      { s with trigger := { s.trigger with places := s.trigger.places.set n o } }
    (¬ admits → State.notifyPlace k d tk s n = s) ∧
    (admits → sub.remaining = .unbounded →
      State.notifyPlace k d tk s n = (with' (some sub)).postTrigger sub.port (.captured tk k d n false)) ∧
    (admits → sub.remaining = .counted 1 →
      State.notifyPlace k d tk s n = (with' none).postTrigger sub.port (.captured tk k d n true)) ∧
    ∀ m, admits → sub.remaining = .counted (m + 2) →
      State.notifyPlace k d tk s n =
        (with' (some { sub with remaining := .counted (m + 1) })).postTrigger sub.port (.captured tk k d n false)

/-- SUBSCRIBE: BAD_ARG for an input, an edge selection or a count out of range, then FULL, and otherwise a subscription
in the lowest-numbered free place with the sender as its port; nothing else changes. UNSUBSCRIBE: BAD_ARG for a number
above 7, NOT_FOUND for a free place, NOT_OWNER for another port's subscription, and otherwise the removal, without a
notice, with the remaining count as result. -/
def Obligations.SubscribeAndUnsubscribe : Prop :=
  (∀ (p : PortId) (input sel : Byte) (count : BitVec 16) (s : State),
     Requested s p (.subscribe input sel count) →
     ((3 < input.toNat ∨ 2 < sel.toNat ∨ 255 < count.toNat) → exec (.subscribe p) s = .next (s.finish p .badArg .empty)) ∧
     ∀ (k : InputId) (es : EdgeSelection), input.toNat = k.val →
       ((sel = 0x00 ∧ es = .rise) ∨ (sel = 0x01 ∧ es = .fall) ∨ (sel = 0x02 ∧ es = .either)) → count.toNat ≤ 255 →
       ((∀ n : Fin 8, s.trigger.places[n] ≠ none) → exec (.subscribe p) s = .next (s.finish p .full .empty)) ∧
       ∀ n : Fin 8, s.trigger.places[n] = none → (∀ m : Fin 8, m < n → s.trigger.places[m] ≠ none) →
         exec (.subscribe p) s = .next { s.finish p .ok (.subscribe n) with
           trigger := { s.trigger with places := s.trigger.places.set n (some
             { port := p, input := k, selection := es,
               remaining := if count = 0 then .unbounded else .counted count.toNat }) } }) ∧
  (∀ (p : PortId) (number : Byte) (s : State), Requested s p (.unsubscribe number) →
     (7 < number.toNat → exec (.unsubscribe p) s = .next (s.finish p .badArg .empty)) ∧
     ∀ n : Fin 8, number.toNat = n.val →
       (s.trigger.places[n] = none → exec (.unsubscribe p) s = .next (s.finish p .notFound .empty)) ∧
       ∀ sub, s.trigger.places[n] = some sub →
         (sub.port ≠ p → exec (.unsubscribe p) s = .next (s.finish p .notOwner .empty)) ∧
         (sub.port = p → exec (.unsubscribe p) s = .next { s.finish p .ok (.unsubscribe sub.remaining) with
           trigger := { s.trigger with places := s.trigger.places.set n none } }))

/-! ### The notice queues -/

/-- POST: the oldest notice of its source joins the tail, not in flight, while no marker is present and there is
room; it makes a marker when the queue holds sixteen; and it is dropped into a marker that is present. Nothing else
changes. The counts of the marker: a drop raises the dropped count, or the later count while the marker is in flight,
by one, each stopping at 65535, and makes the later part at the first drop in flight; a return folds the later count
in. The tick of the marker, and of its later part, is that of the first notice dropped into it: the tick field of its
kind. -/
def Obligations.PostKeepsOrDropsTheNotice : Prop :=
  (∀ (p : PortId) (n : Notice) (rest : List Notice) (s : State),
     let q := (s.port p).queue
     let after (q' : NoticeQueue) : NoticeSource → State
       | .scheduleUnit => s.withPort p { s.port p with
           queue := q', wires := { (s.port p).wires with postsOfSchedule := rest } }
       | .triggerUnit => s.withPort p { s.port p with
           queue := q', wires := { (s.port p).wires with postsOfTrigger := rest } }
     ∀ source : NoticeSource,
       ((source = .scheduleUnit ∧ (s.port p).wires.postsOfSchedule = n :: rest) ∨
         (source = .triggerUnit ∧ (s.port p).wires.postsOfTrigger = n :: rest)) →
       (q.marker = none → q.items.length < 16 →
         exec (.post p source) s = .next (after { q with items := q.items ++ [⟨n, false⟩] } source)) ∧
       (q.marker = none → 16 ≤ q.items.length →
         exec (.post p source) s = .next (after { q with
           marker := some { tick := n.tick, dropped := 1, inFlight := false, later := none } } source)) ∧
       ∀ m, q.marker = some m →
         exec (.post p source) s = .next (after { q with marker := some (m.drop n.tick) } source)) ∧
  (∀ (m : Marker) (t : Tick),
     (m.inFlight = false → m.drop t = { m with dropped := min (m.dropped + 1) 65535 }) ∧
     (m.inFlight = true → m.later = none → m.drop t = { m with later := some (t, 1) }) ∧
     (∀ t' n, m.inFlight = true → m.later = some (t', n) → m.drop t = { m with later := some (t', min (n + 1) 65535) }) ∧
     (m.inFlight = false → m.fold = m) ∧
     (m.inFlight = true → m.later = none → m.fold = { m with inFlight := false }) ∧
     (∀ t' n, m.inFlight = true → m.later = some (t', n) →
       m.fold = { tick := m.tick, dropped := min (m.dropped + n) 65535, inFlight := false, later := none })) ∧
  (∀ (h : Handle) (label : BitVec 16) (t : Tick) (r : Remaining) (flag : Bool) (cause : CancelCause) (input : InputId)
     (d : Direction) (n : Fin 8),
     (Notice.fired h label t r flag).tick = t ∧ (Notice.done h label t flag).tick = t ∧
     (Notice.cancelled h label t r cause).tick = t ∧ (Notice.captured t input d n flag).tick = t)

/-- FETCH of an attached queue: BAD_ARG for a maximum outside 1 to 7; otherwise the first n items are delivered and
marked in flight, n the smaller of the maximum and the number of items, the marker last with its tick and dropped
count, and the response carries the number left. FETCH of a queue whose attached record is no delivers and marks
nothing and is answered as withdrawn, also one that comes before the attachment report of its session (DEDUCED, log
14). FETCH waits for the acknowledgement or return that the port link controller sent before it; that it leaves the
state as it is until then is the model's choice (DESIGN CHOICE, log 1). -/
def Obligations.FetchDeliversFromTheHead : Prop :=
  (∀ (p : PortId) (maximum : Byte) (s : State), Requested s p (.fetch maximum) →
     (s.port p).wires.linkToQueue = [] →
     let q := (s.port p).queue
     (q.attached = false → exec (.fetch p) s = .next (s.withPort p { s.port p with wires := { (s.port p).wires with
       request := none, toLink := (s.port p).wires.toLink ++ [.fetchWithdrawn] } })) ∧
     (q.attached = true → (maximum.toNat = 0 ∨ 7 < maximum.toNat) →
       exec (.fetch p) s = .next (s.finish p .badArg .empty)) ∧
     (q.attached = true → 1 ≤ maximum.toNat → maximum.toNat ≤ 7 →
       (maximum.toNat ≤ q.items.length →
         exec (.fetch p) s = .next
           ((s.withPort p { s.port p with queue := { q with
               items := (q.items.take maximum.toNat).map (fun it => { it with inFlight := true }) ++
                 q.items.drop maximum.toNat } }).finish p .ok
             (.fetch ((q.items.take maximum.toNat).map fun it => .notice it.notice)
               (q.items.length + (if q.marker = none then 0 else 1) - maximum.toNat)))) ∧
       (q.items.length < maximum.toNat → q.marker = none →
         exec (.fetch p) s = .next
           ((s.withPort p { s.port p with queue := { q with
               items := q.items.map fun it => { it with inFlight := true } } }).finish p .ok
             (.fetch (q.items.map fun it => .notice it.notice) 0))) ∧
       ∀ m, q.items.length < maximum.toNat → q.marker = some m →
         exec (.fetch p) s = .next
           ((s.withPort p { s.port p with queue := { q with
               items := q.items.map fun it => { it with inFlight := true }
               marker := some { m with inFlight := true } } }).finish p .ok
             (.fetch ((q.items.map fun it => .notice it.notice) ++ [.overrun m.tick m.dropped]) 0)))) ∧
  (∀ (p : PortId) (maximum : Byte) (s : State), (s.port p).wires.request = some (.fetch maximum) →
     (s.port p).wires.linkToQueue ≠ [] → exec (.fetch p) s = .next s)

/-- An acknowledgement removes the items in flight, and a marker in flight becomes its later part or goes; a return
takes the mark from every item, which keeps its place, and folds a marker in flight. Nothing else changes. -/
def Obligations.AcknowledgementRemovesAndReturnKeeps : Prop :=
  ∀ (p : PortId) (rest : List LinkToQueue) (s : State),
    let q := (s.port p).queue
    let after (q' : NoticeQueue) : State := s.withPort p { s.port p with
      queue := q', wires := { (s.port p).wires with linkToQueue := rest } }
    ((s.port p).wires.linkToQueue = .acknowledge :: rest → ∃ marker,
      exec (.acknowledgement p) s = .next (after { q with items := q.items.filter fun it => !it.inFlight, marker := marker }) ∧
      (q.marker = none → marker = none) ∧
      ∀ m, q.marker = some m →
        (m.inFlight = false → marker = some m) ∧ (m.inFlight = true → m.later = none → marker = none) ∧
        ∀ t n, m.inFlight = true → m.later = some (t, n) →
          marker = some { tick := t, dropped := n, inFlight := false, later := none }) ∧
    ((s.port p).wires.linkToQueue = .giveBack :: rest →
      exec (.returnRequest p) s = .next (after { q with
        items := q.items.map fun it => { it with inFlight := false }, marker := q.marker.map Marker.fold }))

/-- The reports of the session controller: the attachment report sets the attached record; the departure report clears
it and returns the items in flight in one event; the flush removes every item, leaves the attached record and replies.
Nothing else changes. -/
def Obligations.QueueTakesTheReports : Prop :=
  ∀ (p : PortId) (rest : List ToQueue) (s : State),
    let q := (s.port p).queue
    ((s.port p).wires.toQueue = .attachment :: rest → exec (.attachmentReport p) s = .next (s.withPort p { s.port p with
      queue := { q with attached := true }, wires := { (s.port p).wires with toQueue := rest } })) ∧
    ((s.port p).wires.toQueue = .departure :: rest → exec (.departureReport p) s = .next (s.withPort p { s.port p with
      queue := { items := q.items.map (fun it => { it with inFlight := false }), marker := q.marker.map Marker.fold,
                 attached := false }
      wires := { (s.port p).wires with toQueue := rest } })) ∧
    ((s.port p).wires.toQueue = .flush :: rest → exec (.flush p) s = .next (s.withPort p { s.port p with
      queue := { items := [], marker := none, attached := q.attached }
      wires := { (s.port p).wires with toQueue := rest, partingReply := some 0 } }))

/-- The attention output: asserted exactly when the port is RECOVERING, or ATTACHED with an item or a marker not in
flight. -/
def Obligations.AttentionShowsItsTwoCauses : Prop :=
  ∀ (p : PortId) (s : State), s.attention p = true ↔
    (∃ cause, (s.port p).session.state = .recovering cause) ∨
    ((s.port p).session.state = .attached ∧
      ((∃ it ∈ (s.port p).queue.items, it.inFlight = false) ∨ ∃ m, (s.port p).queue.marker = some m ∧ m.inFlight = false))

/-! ### The port link controllers -/

/-- The link pins: SEL opens a window while LINKP is present and RESET released, and only then; the fall of LINKP
ends the window and is reported; its rise is reported. While RESET is asserted no report is made. A read in progress
when LINKP falls is complete if the last edge of the check byte fell before, with an acknowledgement when it carried
delivery, and otherwise partial, the response standing READY (R149 and R182 read with R139: DEDUCED, log 10). A pin
step that finds the level already there leaves the state (DESIGN CHOICE, log 1). The pins: an output line, a trigger
input and LINKP carry their levels, high for high, low for low and high for present; SEL, RESET and ATTN are low when
asserted. -/
def Obligations.LinkPinsOpenAndCloseTheLink : Prop :=
  (∀ (p : PortId) (edges : Nat) (s : State),
    let l := (s.port p).link
    let w := (s.port p).wires
    let fallen : Link := { l with linkp := false, window := .closed }
    (l.sel = false → l.linkp = true → s.resetAsserted = false →
      exec (.windowOpen p) s = .next (s.withPort p { s.port p with link := { l with sel := true, window := .opening } })) ∧
    (l.sel = false → (l.linkp = false ∨ s.resetAsserted = true) →
      exec (.windowOpen p) s = .next (s.withPort p { s.port p with link := { l with sel := true } })) ∧
    (l.sel = true → exec (.windowOpen p) s = .next s) ∧
    (l.linkp = true → s.resetAsserted = false →
      ((∀ frame delivery, l.path ≠ .sending frame delivery) → exec (.linkpFall ⟨p, edges⟩) s = .next (s.withPort p { s.port p with
        link := fallen, wires := { w with linkpReports := w.linkpReports ++ [.falling] } })) ∧
      ∀ frame delivery, l.path = .sending frame delivery →
        (8 * (frame.length + 2) ≤ edges → exec (.linkpFall ⟨p, edges⟩) s = .next (s.withPort p { s.port p with
          link := { fallen with path := .idle }
          wires := { w with
            linkpReports := w.linkpReports ++ [.falling]
            linkToQueue := w.linkToQueue ++ (if delivery = true then [.acknowledge] else []) } })) ∧
        (edges < 8 * (frame.length + 2) → exec (.linkpFall ⟨p, edges⟩) s = .next (s.withPort p { s.port p with
          link := { fallen with path := .ready frame delivery }
          wires := { w with linkpReports := w.linkpReports ++ [.falling] } }))) ∧
    (l.linkp = true → s.resetAsserted = true → l.path = .idle →
      exec (.linkpFall ⟨p, edges⟩) s = .next (s.withPort p { s.port p with link := fallen })) ∧
    (l.linkp = false → exec (.linkpFall ⟨p, edges⟩) s = .next s) ∧
    (l.linkp = false → s.resetAsserted = false →
      exec (.linkpRise p) s = .next (s.withPort p { s.port p with
        link := { l with linkp := true }, wires := { w with linkpReports := w.linkpReports ++ [.rising] } })) ∧
    (l.linkp = false → s.resetAsserted = true →
      exec (.linkpRise p) s = .next (s.withPort p { s.port p with link := { l with linkp := true } })) ∧
    (l.linkp = true → exec (.linkpRise p) s = .next s)) ∧
  (∀ (p : PortId) (i : Fin 16) (k : InputId) (s : State),
    (s.linePin i = true ↔ (s.line i).level = true) ∧ (s.inputPin k = true ↔ s.inputPins.getLsbD k.val = true) ∧
    (s.linkpPin p = true ↔ (s.port p).link.linkp = true) ∧ (s.selPin p = false ↔ (s.port p).link.sel = true) ∧
    (s.resetPin = false ↔ s.resetAsserted = true) ∧ (s.attnPin p = false ↔ s.attention p = true))

/-- The opener, its eight bits taken most significant first, makes a command window, a response window that answers
NONE, BUSY or READY and the response frame by the response path, or an ignored window; READY moves the path to
SENDING. SDO is low while no window is open, during the opener, and in every window but a response window; there the
marker and the frame follow from the ninth bit on, each byte most significant bit first, and then filler. -/
def Obligations.OpenerFixesTheWindow : Prop :=
  (∀ (p : PortId) (bits : Vector Bool 8) (byte : Byte) (s : State), (s.port p).link.window = .opening →
    (∀ i : Fin 8, bits[i] = byte.getLsbD (7 - i.val)) →
    let l := (s.port p).link
    let after (l' : Link) : State := s.withPort p { s.port p with link := l' }
    (byte = 0x6C → exec (.opener p bits) s = .next (after { l with window := .command })) ∧
    (byte = 0x93 → l.path = .idle → exec (.opener p bits) s = .next (after { l with window := .response [0x81] })) ∧
    (∀ r d, byte = 0x93 → l.path = .pending r d →
      exec (.opener p bits) s = .next (after { l with window := .response [0x82] })) ∧
    (∀ frame delivery, byte = 0x93 → l.path = .ready frame delivery →
      exec (.opener p bits) s = .next (after { l with
        window := .response (0x84 :: frame), path := .sending frame delivery })) ∧
    (byte ≠ 0x6C → byte ≠ 0x93 → exec (.opener p bits) s = .next (after { l with window := .ignored }))) ∧
  (∀ (p : PortId) (n : Nat) (s : State),
    ((∀ sent, (s.port p).link.window ≠ .response sent) → s.sdoPin p n = false) ∧
    ∀ sent, (s.port p).link.window = .response sent →
      (n < 8 → s.sdoPin p n = false) ∧
      (∀ (k : Nat) (h : k < sent.length) (i : Nat), i < 8 → n = 8 * (k + 1) + i → s.sdoPin p n = sent[k].getLsbD (7 - i)) ∧
      (8 * (sent.length + 1) ≤ n → s.sdoPin p n = false))

/-- The judgement of a command window: the opener alone is ignored; a length outside 2 to 96, a stray part byte, a wrong
count of bytes or a wrong check byte is a BAD_FRAME that echoes the third byte of the window, or 0; anything else is
accepted. The bits sampled after the opener make bytes, the most significant bit first, and fewer than eight left over
are a stray part byte. The check byte: the register starts at 0; each byte is combined by exclusive-or and then the
register is shifted eight times, 07h combined whenever the bit shifted out was high. -/
def Obligations.FramesAreJudgedAtTheClose : Prop :=
  judgeFrame [] 0 = .ignored ∧ (∀ stray, stray ≠ 0 → judgeFrame [] stray = .badFrame 0) ∧
  (∀ (length : Byte) (rest : List Byte) (stray : Nat),
    ((length.toNat < 2 ∨ 96 < length.toNat ∨ stray ≠ 0 ∨ rest.length ≠ length.toNat + 1) →
      judgeFrame (length :: rest) stray = .badFrame (rest.headD 0)) ∧
    ∀ (sequence code : Byte) (args : List Byte) (check : Byte), rest = sequence :: code :: args ++ [check] →
      length.toNat = args.length + 2 → length.toNat ≤ 96 → stray = 0 →
      (check = crc8 (length :: sequence :: code :: args) →
        judgeFrame (length :: rest) stray = .accepted sequence code args) ∧
      (check ≠ crc8 (length :: sequence :: code :: args) → judgeFrame (length :: rest) stray = .badFrame sequence)) ∧
  (∀ (bytes : List Byte) (stray : List Bool), stray.length < 8 →
    judgeBits ((bytes.flatMap fun b => (List.range 8).map fun i => b.getLsbD (7 - i)) ++ stray) =
      judgeFrame bytes stray.length) ∧
  crc8 [] = 0 ∧
  (∀ (bytes : List Byte) (b : Byte), ∃ r : Nat → Byte, r 0 = crc8 bytes ^^^ b ∧ r 8 = crc8 (bytes ++ [b]) ∧
    ∀ i < 8, ((r i).getLsbD 7 = false → r (i + 1) = r i <<< 1) ∧ ((r i).getLsbD 7 = true → r (i + 1) = (r i <<< 1) ^^^ 0x07))

/-- The close of a command window, by the state of the response path: in IDLE an accepted frame makes the path
PENDING and is reported, and a BAD_FRAME is answered; in PENDING either is discarded; in READY the unread response is
abandoned first, with a return request when it carried delivery, and the next response carries PRIOR_LOST. -/
def Obligations.CommandWindowsCloseByThePath : Prop :=
  ∀ (p : PortId) (bits stray : List Bool) (s : State), (s.port p).link.sel = true →
    (s.port p).link.window = .command →
    let l : Link := { (s.port p).link with sel := false, window := .closed }
    let w := (s.port p).wires
    let run := exec (.commandWindowClose p bits stray) s
    let refusal (echo : Byte) (lost : Bool) : List Byte := responseFrame echo (flagsByte lost l.discardedFrame) ⟨.badFrame, .empty⟩
    let waiting (sq code : Byte) (args : List Byte) : Path :=
      .pending { sequence := sq, code := code, args := args, block := none } false
    (judgeBits (bits ++ stray) = .ignored → run = .next (s.withPort p { s.port p with link := l })) ∧
    (∀ sq code args, judgeBits (bits ++ stray) = .accepted sq code args →
      (l.path = .idle → run = .next (s.withPort p { s.port p with
        link := { l with path := waiting sq code args }
        wires := { w with toSession := w.toSession ++ [.acceptance code] } })) ∧
      (∀ r, l.path = .pending r false → run = .next (s.withPort p { s.port p with link := { l with discardedFrame := true } })) ∧
      (∀ r, l.path = .pending r true → run = .next (s.withPort p { s.port p with link := l })) ∧
      (∀ frame delivery, l.path = .ready frame delivery → run = .next (s.withPort p { s.port p with
        link := { l with path := waiting sq code args, priorLost := true }
        wires := { w with
          linkToQueue := w.linkToQueue ++ (if delivery = true then [.giveBack] else [])
          toSession := w.toSession ++ [.acceptance code] } }))) ∧
    ∀ echo, judgeBits (bits ++ stray) = .badFrame echo →
      (l.path = .idle → run = .next (s.withPort p { s.port p with link := { l with
        path := .ready (refusal echo l.priorLost) false, priorLost := false, discardedFrame := false } })) ∧
      (∀ r, l.path = .pending r false → run = .next (s.withPort p { s.port p with link := { l with discardedFrame := true } })) ∧
      (∀ r, l.path = .pending r true → run = .next (s.withPort p { s.port p with link := l })) ∧
      ∀ frame delivery, l.path = .ready frame delivery → run = .next (s.withPort p { s.port p with
        link := { l with path := .ready (refusal echo true) false, priorLost := false, discardedFrame := false }
        wires := { w with linkToQueue := w.linkToQueue ++ (if delivery = true then [.giveBack] else []) } })

/-- The close of a response window: in SENDING the read is complete when the edge of the check byte's last bit fell
within it (the opener, the READY marker and the frame), and then the path becomes IDLE with an acknowledgement when it
carried delivery; otherwise the response stands READY unchanged. A NONE or BUSY window changes no state. A window that
is ignored, or whose opener is not complete, closes without effect: SEL is deasserted and nothing else changes. -/
def Obligations.ResponseWindowsJudgeTheRead : Prop :=
  (∀ (p : PortId) (edges : Nat) (sent : List Byte) (s : State), (s.port p).link.sel = true →
     (s.port p).link.window = .response sent →
     let l : Link := { (s.port p).link with sel := false, window := .closed }
     let w := (s.port p).wires
     (∀ frame delivery, l.path = .sending frame delivery →
       (8 * (frame.length + 2) ≤ edges → exec (.responseWindowClose p edges) s = .next (s.withPort p { s.port p with
         link := { l with path := .idle }
         wires := { w with linkToQueue := w.linkToQueue ++ (if delivery = true then [.acknowledge] else []) } })) ∧
       (edges < 8 * (frame.length + 2) → exec (.responseWindowClose p edges) s = .next (s.withPort p { s.port p with
         link := { l with path := .ready frame delivery } }))) ∧
     ((∀ frame delivery, l.path ≠ .sending frame delivery) →
       exec (.responseWindowClose p edges) s = .next (s.withPort p { s.port p with link := l }))) ∧
  (∀ (p : PortId) (bits stray : List Bool) (edges : Nat) (s : State), (s.port p).link.sel = true →
     ((s.port p).link.window = .ignored ∨ (s.port p).link.window = .opening ∨ (s.port p).link.window = .closed) →
     let after : State := s.withPort p { s.port p with link := { (s.port p).link with sel := false, window := .closed } }
     exec (.commandWindowClose p bits stray) s = .next after ∧ exec (.responseWindowClose p edges) s = .next after)

/-- The answer of the session controller: NOT_READY for a command other than STATUS on a port that is not ATTACHED,
UNKNOWN for a code that names no command, BAD_ARG for a body of the wrong length, each with no results and reaching
no block; a request that passes is handed to its owning block; a request with the discard mark is removed. At the
handing the withdrawals under way and the "taken" replies to them are marked as those of an earlier request (DEDUCED,
log 13). The codes of the 21 commands, and no others, name a command; each calls for its length, LOAD for two bytes
and any number of whole words; each command belongs to the block of the table before R151; and the argument bytes are
the fields of the command in the order of the layouts of R181, each most significant byte first. -/
def Obligations.AnswersCheckTheRequest : Prop :=
  (∀ (p : PortId) (attached : Bool) (rest : List FromSession) (r : Request) (discard : Bool) (s : State),
     (s.port p).wires.fromSession = .answer attached :: rest → (s.port p).link.path = .pending r discard → r.block = none →
     let l := (s.port p).link
     let w : Wires := { (s.port p).wires with fromSession := rest }
     let handed : Wires := { w with
       withdrawals := w.withdrawals.map fun x => { x with live := false }
       toLink := w.toLink.map ToLink.retired
       fromSession := rest.map FromSession.retired }
     let answered (status : Status) : State := s.withPort p { s.port p with
       link := { l with
         path := .ready (responseFrame r.sequence (flagsByte l.priorLost l.discardedFrame) ⟨status, .empty⟩) false
         priorLost := false
         discardedFrame := false }
       wires := w }
     let run := exec (.acceptanceAnswer p) s
     (discard = true → run = .next (s.withPort p { s.port p with
       link := { l with path := .idle, priorLost := false, discardedFrame := false }, wires := w })) ∧
     (discard = false →
       (attached = false → r.code ≠ 0x01 → run = .next (answered .notReady)) ∧
       (¬ (attached = false ∧ r.code ≠ 0x01) →
         (∀ status, parseCommand r.code r.args = .error status → run = .next (answered status)) ∧
         ∀ c, parseCommand r.code r.args = .ok c →
           (c.block = .session → run = .next (s.withPort p { s.port p with
             link := { l with path := .pending { r with block := some .session } false, replyDue := false }
             session := { (s.port p).session with waiting := some ⟨c, false⟩ }
             wires := handed })) ∧
           (c.block ≠ .session → run = .next (s.withPort p { s.port p with
             link := { l with path := .pending { r with block := some c.block } false, replyDue := false }
             wires := { handed with request := some c } }))))) ∧
  ((∀ live, ToLink.retired (.taken live) = .taken false) ∧ (∀ m, (∀ live, m ≠ .taken live) → ToLink.retired m = m) ∧
    (∀ m, FromSession.retired (.reply m) = .reply m.retired) ∧ (∀ a, FromSession.retired (.answer a) = .answer a) ∧
    ∀ d, FromSession.retired (.departure d) = .departure d) ∧
  (∀ (interval : BitVec 32) (a b : Byte) (v : BitVec 24) (n : BitVec 16) (ls levels : LineSet) (x : ScheduleArgs)
     (ws : List LevelSet),
     Command.status.block = .session ∧ (Command.heartbeat interval).block = .session ∧ Command.parting.block = .session ∧
     (Command.fetch a).block = .noticeQueue ∧ Command.time.block = .timebase ∧ (Command.prescale v).block = .timebase ∧
     (Command.claim ls levels a).block = .lineTable ∧ (Command.release ls).block = .lineTable ∧
     (Command.drive ls levels).block = .lineTable ∧ Command.lines.block = .lineTable ∧
     (Command.schedule x).block = .scheduleUnit ∧ (Command.cancel a b).block = .scheduleUnit ∧
     (Command.query a b).block = .scheduleUnit ∧ (Command.list a).block = .scheduleUnit ∧
     (Command.alloc n).block = .patternStore ∧ (Command.free a).block = .patternStore ∧
     (Command.load a b ws).block = .patternStore ∧ Command.segments.block = .patternStore ∧
     (Command.subscribe a b n).block = .triggerUnit ∧ (Command.unsubscribe a).block = .triggerUnit ∧
     Command.inputs.block = .triggerUnit) ∧
  (∀ (code : Byte) (args : List Byte),
     (parseCommand code args = .error .unknown ↔ code.toNat ∉ [0x01, 0x02, 0x03, 0x08, 0x10, 0x11, 0x20, 0x21, 0x22, 0x23, 0x30,
       0x31, 0x32, 0x33, 0x40, 0x41, 0x42, 0x43, 0x50, 0x51, 0x52]) ∧
     (∀ status, parseCommand code args = .error status → status = .unknown ∨ status = .badArg) ∧
     (∀ n, (code.toNat, n) ∈ [(0x01, 0), (0x02, 4), (0x03, 0), (0x08, 1), (0x10, 0), (0x11, 3), (0x20, 5), (0x21, 2), (0x22, 4),
         (0x23, 0), (0x30, 20), (0x31, 2), (0x32, 2), (0x33, 1), (0x40, 2), (0x41, 1), (0x43, 0), (0x50, 4), (0x51, 1),
         (0x52, 0)] → (parseCommand code args = .error .badArg ↔ args.length ≠ n)) ∧
     (code = 0x42 → (parseCommand code args = .error .badArg ↔ args.length < 2 ∨ args.length % 2 = 1))) ∧
  (∀ a b c d e : Byte,
     parseCommand 0x01 [] = .ok .status ∧ parseCommand 0x02 [a, b, c, d] = .ok (.heartbeat (a ++ b ++ c ++ d)) ∧
     parseCommand 0x03 [] = .ok .parting ∧ parseCommand 0x08 [a] = .ok (.fetch a) ∧ parseCommand 0x10 [] = .ok .time ∧
     parseCommand 0x11 [a, b, c] = .ok (.prescale (a ++ b ++ c)) ∧
     parseCommand 0x20 [a, b, c, d, e] = .ok (.claim (a ++ b) (c ++ d) e) ∧
     parseCommand 0x21 [a, b] = .ok (.release (a ++ b)) ∧ parseCommand 0x22 [a, b, c, d] = .ok (.drive (a ++ b) (c ++ d)) ∧
     parseCommand 0x23 [] = .ok .lines ∧ parseCommand 0x31 [a, b] = .ok (.cancel a b) ∧
     parseCommand 0x32 [a, b] = .ok (.query a b) ∧ parseCommand 0x33 [a] = .ok (.list a) ∧
     parseCommand 0x40 [a, b] = .ok (.alloc (a ++ b)) ∧ parseCommand 0x41 [a] = .ok (.free a) ∧
     parseCommand 0x43 [] = .ok .segments ∧ parseCommand 0x50 [a, b, c, d] = .ok (.subscribe a b (c ++ d)) ∧
     parseCommand 0x51 [a] = .ok (.unsubscribe a) ∧ parseCommand 0x52 [] = .ok .inputs ∧
     ∀ ws : List LevelSet, parseCommand 0x42 (a :: b :: ws.flatMap fun w => bigEndian 2 w.toNat) = .ok (.load a b ws)) ∧
  (∀ x : Fin 20 → Byte, parseCommand 0x30 (List.ofFn x) = .ok (.schedule {
     mode := x 0, label := x 1 ++ x 2, lines := x 3 ++ x 4, action := x 5, segment := x 6, position := x 7,
     count := x 8 ++ x 9, interval := x 10 ++ x 11 ++ x 12, notify := x 13,
     area := x 14 ++ x 15 ++ x 16 ++ x 17 ++ x 18 ++ x 19 }))

/-- A completion taken in PENDING without the discard mark is assembled: the sequence echo, the status, the flags
from the marks, which are then clear, the results and the check byte, carrying delivery when it holds an item of a
FETCH; the path becomes READY. With the discard mark it is dropped, the marks are cleared and the path becomes IDLE;
a dropped FETCH settles its departure, one settlement report for each event that settles (DEDUCED, log 17). A
completion of the session controller is taken behind what it sent its port link controller before (R160): COMPLETION
and WITHDRAWAL_REPLY leave the state while another message stands first (DESIGN CHOICE, log 1), and a completion of
another block is taken before one of the session controller (DESIGN CHOICE, log 12). The wire: the status codes and
the flags of R182, the results of R184 with HELD's and LATE's, the notice records of R185, and the records of R186,
each field most significant byte first with the values of R178 and R179; a sampled level that is present reads 01h
for high and 00h for low (DESIGN CHOICE, log 30), and the five high bits of the state byte of a line record are clear
(DESIGN CHOICE, log 31). -/
def Obligations.CompletionsAreAssembledOrDropped : Prop :=
  (∀ (p : PortId) (c : Completion) (rest : List ToLink) (more : List FromSession) (w : Wires) (r : Request) (s : State),
    ((s.port p).wires.toLink = .completion c :: rest ∧ w = { (s.port p).wires with toLink := rest }) ∨
      ((∀ c' rest', (s.port p).wires.toLink ≠ .completion c' :: rest') ∧
        (s.port p).wires.fromSession = .reply (.completion c) :: more ∧
        w = { (s.port p).wires with fromSession := more }) →
    let l := (s.port p).link
    let body : List Byte := [BitVec.ofNat 8 (3 + c.result.bytes.length), r.sequence, c.status.byte,
      flagsByte l.priorLost l.discardedFrame] ++ c.result.bytes
    (l.path = .pending r false → exec (.completion p) s = .next (s.withPort p { s.port p with
      link := { l with
        path := .ready (body ++ [crc8 body]) c.result.delivers
        priorLost := false
        discardedFrame := false }
      wires := w })) ∧
    (l.path = .pending r true →
      let idle : Link := { l with path := .idle, priorLost := false, discardedFrame := false }
      (r.block ≠ some .noticeQueue →
        exec (.completion p) s = .next (s.withPort p { s.port p with link := idle, wires := w })) ∧
      (r.block = some .noticeQueue →
        exec (.completion p) s = .next (s.withPort p { s.port p with
          link := idle, wires := { w with toSession := w.toSession ++ [.settlement] } })))) ∧
  (∀ (p : PortId) (m : FromSession) (more : List FromSession) (s : State), (s.port p).wires.toLink = [] →
    (s.port p).wires.fromSession = m :: more → (∀ x, m ≠ .reply x) →
    exec (.completion p) s = .next s ∧ exec (.withdrawalReply p) s = .next s) ∧
  (([Status.ok, .notReady, .badFrame, .unknown, .badArg, .held, .notOwner, .full, .duplicate, .late, .notFound, .inUse,
       .noSpace].map Status.byte = [0, 1, 2, 3, 4, 5, 6, 7, 8, 9, 10, 11, 12]) ∧
    (∀ lost discarded, (flagsByte lost discarded).toNat = (if lost = true then 1 else 0) + if discarded = true then 2 else 0) ∧
    (∀ r : Result, r.delivers = true ↔ ∃ items n, r = .fetch items n ∧ items ≠ [])) ∧
  (∀ (a b c d : Nat) (v : Tick) (iv : BitVec 24) (ls : LineSet) (h : Handle) (r : Remaining) (st : ReportedState)
     (due : Option Tick) (k : Fin 8) (records : Vector Line 16) (items : List ListItem) (delivered : List Delivered)
     (segments : Vector (Option Segment) 8) (inputs : Vector Input 4) (places : Vector (Option Subscription) 8),
     let stateByte : Byte := if st = .timed then 0 else if st = .waiting then 1 else 2
     let count : Nat := match r with
       | .counted n => n
       | .unbounded => 0
     Result.empty.bytes = [] ∧ (Result.heartbeat iv).bytes = bigEndian 3 iv.toNat ∧
     (Result.parting a b c d).bytes = bigEndian 1 a ++ bigEndian 1 b ++ bigEndian 1 c ++ bigEndian 1 d ∧
     (Result.fetch delivered a).bytes = bigEndian 1 delivered.length ++ bigEndian 1 a ++ delivered.flatMap Delivered.bytes ∧
     (Result.time v a).bytes = bigEndian 4 v.toNat ++ bigEndian 3 a ∧
     (Result.prescale a v).bytes = bigEndian 3 a ++ bigEndian 4 v.toNat ∧
     (Result.claim ls).bytes = bigEndian 2 ls.toNat ∧ (Result.held ls).bytes = bigEndian 2 ls.toNat ∧
     (Result.late v).bytes = bigEndian 4 v.toNat ∧ (Result.release a).bytes = bigEndian 1 a ∧
     (Result.lines records).bytes = (List.finRange 16).flatMap (fun i => records[i].bytes) ∧
     (Result.schedule h st due).bytes = h.bytes ++ [stateByte] ++ bigEndian 4 (due.getD 0).toNat ∧
     (Result.cancel r st).bytes = bigEndian 2 count ++ [stateByte] ∧
     (Result.list a items).bytes = bigEndian 1 a ++ bigEndian 1 items.length ++ items.flatMap ListItem.bytes ∧
     (ListItem.bytes ⟨h, some v⟩ = h.bytes ++ [0] ++ bigEndian 4 v.toNat ∧
       ListItem.bytes ⟨h, none⟩ = h.bytes ++ [1, 0, 0, 0, 0]) ∧
     (Result.alloc k a).bytes = bigEndian 1 k.val ++ bigEndian 1 a ∧
     (Result.free a b).bytes = bigEndian 1 a ++ bigEndian 2 b ∧
     (Result.segments segments a b).bytes =
       (List.finRange 8).flatMap (fun i => segmentBytes segments[i]) ++ bigEndian 2 a ++ bigEndian 2 b ∧
     (Result.subscribe k).bytes = bigEndian 1 k.val ∧ (Result.unsubscribe r).bytes = bigEndian 1 count ∧
     (Result.inputs inputs places).bytes =
       (List.finRange 4).flatMap (fun i => inputs[i].bytes) ++ (List.finRange 8).flatMap (fun i => placeBytes places[i]) ∧
     h.bytes = bigEndian 1 h.slot.val ++ [h.generation]) ∧
  (∀ (h : Handle) (label : BitVec 16) (v : Tick) (r : Remaining) (late : Bool) (cause : CancelCause) (input : InputId)
     (dir : Direction) (k : Fin 8) (n : Nat),
     let count : Nat := match r with
       | .counted n => n
       | .unbounded => 0
     let flag : Byte := if late = true then 1 else 0
     let about : List Byte := bigEndian 4 v.toNat ++ h.bytes ++ bigEndian 2 label.toNat
     (Delivered.notice (.fired h label v r late)).bytes = [1] ++ about ++ bigEndian 2 count ++ [flag] ∧
     (Delivered.notice (.done h label v late)).bytes = [2] ++ about ++ bigEndian 2 0 ++ [flag] ∧
     (Delivered.notice (.cancelled h label v r cause)).bytes = [3] ++ about ++ bigEndian 2 count ++
       [if cause = .released then 0 else if cause = .orphaned then 1 else 2] ∧
     (Delivered.notice (.captured v input dir k late)).bytes = [4] ++ bigEndian 4 v.toNat ++ bigEndian 1 input.val ++
       [if dir = .rise then 0 else 1] ++ bigEndian 1 k.val ++ [flag, 0, 0, 0] ∧
     (Delivered.overrun v n).bytes = [5] ++ bigEndian 4 v.toNat ++ bigEndian 2 n ++ [0, 0, 0, 0, 0]) ∧
  (∀ (l : Line) (g : Segment) (i : Input) (sub : Subscription) (v : Tick) (dir : Direction),
     let count : Nat := match sub.remaining with
       | .counted n => n
       | .unbounded => 0
     let sample : Byte := if i.sampled = none then 0xFF else if i.sampled = some true then 1 else 0
     l.bytes = [match l.owner with
         | some p => BitVec.ofNat 8 p.val
         | none => 0xFF,
       if l.policy = none then 0xFF else if l.policy = some .hold then 0 else if l.policy = some .freeze then 1 else 2,
       BitVec.ofNat 8 ((if l.level = true then 1 else 0) + (if l.safeLevel = true then 2 else 0) +
         if l.held = true then 4 else 0)] ∧
     segmentBytes none = [0, 0xFF, 0, 0, 0] ∧
     segmentBytes (some g) = [1] ++ bigEndian 1 g.owner.val ++ bigEndian 1 g.base ++ bigEndian 2 g.length ∧
     (i.lastEdge = none → i.bytes = [sample, 0, 0, 0, 0, 0xFF] ++ bigEndian 2 i.edgeCount.toNat) ∧
     (i.lastEdge = some (v, dir) → i.bytes =
       [sample] ++ bigEndian 4 v.toNat ++ [if dir = .rise then 0 else 1] ++ bigEndian 2 i.edgeCount.toNat) ∧
     placeBytes none = [0xFF, 0, 0, 0] ∧
     placeBytes (some sub) = bigEndian 1 sub.port.val ++ bigEndian 1 sub.input.val ++
       [if sub.selection = .rise then 0 else if sub.selection = .fall then 1 else 2] ++ bigEndian 1 count) ∧
  (∀ (h : Handle) (e : Entry) (seg : Fin 8) (pos : Nat) (due : Tick) (input : InputId) (sel : EdgeSelection)
     (offset : BitVec 24) (mark : Bool),
     let count : Nat := match e.remaining with
       | .counted n => n
       | .unbounded => 0
     ∃ action state rest : List Byte,
       (Result.query h e).bytes = h.bytes ++ bigEndian 2 e.label.toNat ++ bigEndian 2 e.lines.toNat ++ [action.headD 0] ++
         [state.headD 0] ++ action.tail ++ state.tail ++ rest ∧
       rest = bigEndian 2 count ++ bigEndian 3 (e.interval.getD 0).toNat ++
         [if e.notify = .none then 0 else if e.notify = .last then 1 else 2,
          if e.latePolicy = none then 0xFF else if e.latePolicy = some .refuse then 0 else 1] ∧
       (e.action = .set → action = [0, 0xFF, 0]) ∧ (e.action = .clear → action = [1, 0xFF, 0]) ∧
       (e.action = .toggle → action = [2, 0xFF, 0]) ∧
       (e.action = .pattern seg pos → action = [3] ++ bigEndian 1 seg.val ++ bigEndian 1 pos) ∧
       (e.state = .timed due → state = [0] ++ bigEndian 4 due.toNat ++ [0xFF, 0xFF, 0, 0, 0]) ∧
       (e.state = .waiting input sel offset mark → state = [1, 0, 0, 0, 0] ++ bigEndian 1 input.val ++
         [if sel = .rise then 0 else if sel = .fall then 1 else 2] ++ bigEndian 3 offset.toNat)) ∧
  (∀ (rec : StatusRecord) (cause : RecoveryCause) (n : Nat),
     ∃ before marker : List Byte,
       (Result.status rec).bytes = before ++ [2] ++ bigEndian 1 rec.notices ++ marker ++ bigEndian 3 rec.heartbeat.toNat ++
         bigEndian 2 rec.ownedLines.toNat ++ bigEndian 1 rec.pendingEntries ++ bigEndian 4 rec.timebaseValue.toNat ∧
       (rec.previous = .attached → before = [2, 0xFF]) ∧
       (rec.previous = .recovering cause →
         before = [1, if cause = .reset then 0 else if cause = .linkLoss then 1 else 2]) ∧
       (rec.marker = none → marker = [0, 0, 0]) ∧ (rec.marker = some n → marker = [1] ++ bigEndian 2 n))

/-- A block takes a withdrawal: a request of the port that still waits at it is removed without effect and it replies
"withdrawn"; otherwise it replies "taken" and nothing else changes. A withdrawal that another request has followed
means none that waits: it is answered "taken", the reply marked so (DEDUCED, log 13). A withdrawal at the session
controller is answered "withdrawn" when its request waits or was removed by the departure event, and "taken" when the
session controller took it, behind what it sent its port link controller before (R160). The reply to a withdrawal
settles the departure in the event in which it is taken, whatever else is under way, with one settlement report
(DEDUCED, log 17): "withdrawn" with the discard mark makes the path IDLE, "taken" changes nothing else. A FETCH
answered as withdrawn makes the path IDLE without a response and settles its departure; one that no departure
instruction has reached yet leaves the settlement to it (DEDUCED, log 14) and keeps the marks (DESIGN CHOICE, log
29). A reply of another block is taken before one of the session controller (DESIGN CHOICE, log 12). What one port
link controller sends to one block reaches it in the order sent (R152): a request that was handed behind a withdrawal
to its block waits there until the block has taken the withdrawal, and the step of its command leaves the state until
then (DESIGN CHOICE, log 1). -/
def Obligations.WithdrawalsAreAnsweredAndSettle : Prop :=
  (∀ (p : PortId) (b : Block) (live : Bool) (before after : List Withdrawal) (s : State), b ≠ .session →
     (s.port p).wires.withdrawals = before ++ ⟨b, live⟩ :: after → (∀ x ∈ before, x.block ≠ b) →
     let w : Wires := { (s.port p).wires with withdrawals := before ++ after }
     (∀ c, live = true → (s.port p).wires.request = some c → c.block = b →
       exec (.withdrawalRequest p b) s = .next (s.withPort p { s.port p with
         wires := { w with request := none, toLink := w.toLink ++ [.withdrawn] } })) ∧
     ((live = false ∨ ∀ c, (s.port p).wires.request = some c → c.block ≠ b) →
       exec (.withdrawalRequest p b) s = .next (s.withPort p { s.port p with
         wires := { w with toLink := w.toLink ++ [.taken live] } }))) ∧
  (∀ (p : PortId) (live : Bool) (before after : List Withdrawal) (s : State), (s.port p).session.asking = none →
     (s.port p).wires.withdrawals = before ++ ⟨.session, live⟩ :: after → (∀ x ∈ before, x.block ≠ .session) →
     let w : Wires := { (s.port p).wires with withdrawals := before ++ after }
     let se := (s.port p).session
     (live = true → (se.waiting ≠ none ∨ se.removed = true) →
       exec (.withdrawalRequest p .session) s = .next (s.withPort p { s.port p with
         session := { se with waiting := none, removed := false }
         wires := { w with fromSession := w.fromSession ++ [.reply .withdrawn] } })) ∧
     ((live = false ∨ (se.waiting = none ∧ se.removed = false)) →
       exec (.withdrawalRequest p .session) s = .next (s.withPort p { s.port p with
         wires := { w with fromSession := w.fromSession ++ [.reply (.taken live)] } }))) ∧
  (∀ (p : PortId) (m : ToLink) (rest : List ToLink) (more : List FromSession) (w : Wires) (r : Request) (s : State),
     ((s.port p).wires.toLink = m :: rest ∧ w = { (s.port p).wires with toLink := rest }) ∨
       (((s.port p).wires.toLink = [] ∨ ∃ c rest', (s.port p).wires.toLink = .completion c :: rest') ∧
         (s.port p).wires.fromSession = .reply m :: more ∧ w = { (s.port p).wires with fromSession := more }) →
     let l := (s.port p).link
     let settled : Wires := { w with toSession := w.toSession ++ [.settlement] }
     (m = .withdrawn → l.path = .pending r true →
       exec (.withdrawalReply p) s = .next (s.withPort p { s.port p with
         link := { l with path := .idle, priorLost := false, discardedFrame := false, replyDue := false }
         wires := settled })) ∧
     (m = .taken true →
       exec (.withdrawalReply p) s = .next (s.withPort p { s.port p with
         link := { l with replyDue := false }, wires := settled })) ∧
     (m = .taken false →
       exec (.withdrawalReply p) s = .next (s.withPort p { s.port p with wires := settled })) ∧
     (m = .fetchWithdrawn →
       (l.path = .pending r true →
         exec (.withdrawalReply p) s = .next (s.withPort p { s.port p with
           link := { l with path := .idle, priorLost := false, discardedFrame := false }, wires := settled })) ∧
       (l.path = .pending r false →
         exec (.withdrawalReply p) s = .next (s.withPort p { s.port p with link := { l with path := .idle }, wires := w })))) ∧
  (∀ (p : PortId) (request : Command) (x : Withdrawal) (c : Instr) (s : State), (s.port p).wires.request = some request →
     x ∈ (s.port p).wires.withdrawals → x.block = request.block → x.live = false →
     c ∈ [Instr.time p, .prescale p, .claim p, .release p, .drive p, .lines p, .schedule p, .cancel p, .query p, .list p,
       .alloc p, .free p, .load p, .segments p, .subscribe p, .unsubscribe p, .inputs p, .fetch p] →
     exec c s = .next s) ∧
  (∀ (p : PortId) (question : StatusQuestion) (x : Withdrawal) (c : Instr) (s : State),
     x ∈ (s.port p).wires.withdrawals → x.block = .session → x.live = false →
     c ∈ [Instr.status ⟨p, question⟩, .heartbeat p, .parting p] → exec c s = .next s)

/-- The departure instruction by the state of the path: IDLE, READY and SENDING end IDLE with the marks clear and
settle at once; a frame not yet answered is discarded on an entry to DETACHED and stands on a lapse, and settles at
once; a handed request takes the discard mark and a withdrawal is sent, except for a FETCH, and the settlement waits.
A departure instruction that finds the discard mark already set on a handed request sends no further withdrawal: its
settlement is the report sent with the reply or answer under way, one report for both departures (DEDUCED, log 17),
and when that reply has been taken it settles at once. -/
def Obligations.DepartureInstructionsClearThePath : Prop :=
  (∀ (p : PortId) (toDetached : Bool) (rest : List FromSession) (s : State),
     (s.port p).wires.fromSession = .departure toDetached :: rest →
     let l : Link := { (s.port p).link with priorLost := false, discardedFrame := false }
     let w : Wires := { (s.port p).wires with fromSession := rest }
     let settled : Wires := { w with toSession := w.toSession ++ [.settlement] }
     let run := exec (.departureInstruction p) s
     ((l.path = .idle ∨ ∃ frame delivery, l.path = .ready frame delivery) →
       run = .next (s.withPort p { s.port p with link := { l with path := .idle }, wires := settled })) ∧
     (∀ frame delivery sent, l.path = .sending frame delivery → l.window = .response sent →
       run = .next (s.withPort p { s.port p with link := { l with path := .idle, window := .response [] }, wires := settled })) ∧
     (∀ r discard, l.path = .pending r discard → r.block = none →
       run = .next (s.withPort p { s.port p with
         link := { l with path := .pending r (discard || toDetached) }, wires := settled })) ∧
     (∀ r b, l.path = .pending r false → r.block = some b →
       (b = .noticeQueue → run = .next (s.withPort p { s.port p with link := { l with path := .pending r true }, wires := w })) ∧
       (b ≠ .noticeQueue → run = .next (s.withPort p { s.port p with
         link := { l with path := .pending r true, replyDue := true }
         wires := { w with withdrawals := w.withdrawals ++ [⟨b, true⟩] } }))) ∧
     ∀ r b, l.path = .pending r true → r.block = some b →
       ((b = .noticeQueue ∨ l.replyDue = true) → run = .next (s.withPort p { s.port p with link := l, wires := w })) ∧
       (b ≠ .noticeQueue → l.replyDue = false →
         run = .next (s.withPort p { s.port p with link := l, wires := settled })))

/-! ### The session controllers -/

/-- An acceptance report is answered with whether the port is ATTACHED, and restarts the lapse timer of an ATTACHED
port whose interval is not 0; otherwise the lapse count is not touched. HEARTBEAT of an ATTACHED port: an interval
above 16,777,215 is refused BAD_ARG; otherwise it is the interval, and the lapse count becomes it, or absent for 0;
the result is the interval held before. -/
def Obligations.HeartbeatAndAcceptanceSetTheTimer : Prop :=
  (∀ (p : PortId) (code : Byte) (rest : List ToSession) (s : State), (s.port p).wires.toSession = .acceptance code :: rest →
     (s.port p).session.asking = none →
     let se := (s.port p).session
     let after (se' : Session) (attached : Bool) : State := s.withPort p { s.port p with
       session := se'
       wires := { (s.port p).wires with toSession := rest, fromSession := (s.port p).wires.fromSession ++ [.answer attached] } }
     (se.state = .attached → se.heartbeat ≠ 0 →
       exec (.acceptanceReport p) s = .next (after { se with lapseCount := some se.heartbeat.toNat } true)) ∧
     (se.state = .attached → se.heartbeat = 0 → exec (.acceptanceReport p) s = .next (after se true)) ∧
     (se.state ≠ .attached → exec (.acceptanceReport p) s = .next (after se false))) ∧
  (∀ (p : PortId) (v : BitVec 32) (mark : Bool) (s : State), SessionRequested s p ⟨.heartbeat v, mark⟩ →
     (s.port p).session.state = .attached →
     let se := (s.port p).session
     (16777215 < v.toNat → exec (.heartbeat p) s = .next (s.withPort p
       ({ s.port p with session := { se with waiting := none } }.answered .badArg .empty))) ∧
     (v.toNat ≤ 16777215 → exec (.heartbeat p) s = .next (s.withPort p
       ({ s.port p with session := { se with
           heartbeat := BitVec.ofNat 24 v.toNat
           lapseCount := if v.toNat = 0 then none else some v.toNat
           waiting := none } }.answered .ok (.heartbeat se.heartbeat)))))

/-- The tick at a session controller: the lapse count of an ATTACHED port falls by one, and at 0 the timer expires in
that event, as the LAPSE step gives (DEDUCED, log 7); a port without one keeps its state. LAPSE leaves the state when
the tick does not take the count to 0 (DESIGN CHOICE, log 1). -/
def Obligations.SessionTickLowersTheCount : Prop :=
  ∀ (p : PortId) (d : Tick) (rest : List Tick) (s : State), (s.port p).wires.ticks = d :: rest →
    (s.port p).session.asking = none →
    let se := (s.port p).session
    let w : Wires := { (s.port p).wires with ticks := rest }
    (∀ n, se.state = .attached → se.lapseCount = some (n + 2) →
      exec (.sessionControllerTick p) s = .next (s.withPort p { s.port p with
        session := { se with lapseCount := some (n + 1) }, wires := w }) ∧ exec (.lapse p) s = .next s) ∧
    ((se.state ≠ .attached ∨ se.lapseCount = none) →
      exec (.sessionControllerTick p) s = .next (s.withPort p { s.port p with wires := w }) ∧ exec (.lapse p) s = .next s) ∧
    (se.state = .attached → se.lapseCount = some 1 →
      exec (.sessionControllerTick p) s = exec (.lapse p) s ∧
      exec (.lapse p) s = .next (s.withPort p { s.port p with
        session := { se with
          state := .recovering .lapse, lapseCount := none, departure := .awaiting true, waiting := none,
          removed := se.removed || se.waiting.isSome }
        wires := { w with fromSession := w.fromSession ++ [.departure false], toQueue := w.toQueue ++ [.departure] } }))

/-- A settlement report ends the departure: with orphan processing owed it starts orphan processing; otherwise the
departure field becomes none, and a STATUS that nothing holds any more is taken in the same event: it begins, with its
questions still to be answered (log 28). With no departure it changes nothing. The reply of the line table ends orphan
processing, and a STATUS that nothing holds any more is taken in the same event. -/
def Obligations.SettlementAndOrphanReply : Prop :=
  (∀ (p : PortId) (rest : List ToSession) (s : State), (s.port p).wires.toSession = .settlement :: rest →
     (s.port p).session.asking = none →
     let se := (s.port p).session
     let w : Wires := { (s.port p).wires with toSession := rest }
     (se.departure = .awaiting true → exec (.settlementReport p) s = .next (s.withPort p { s.port p with
       session := { se with departure := .none, orphan := true }
       wires := { w with toLines := w.toLines ++ [.orphanStart] } })) ∧
     (se.departure = .none → exec (.settlementReport p) s = .next (s.withPort p { s.port p with wires := w })) ∧
     (se.departure = .awaiting false →
       ((se.orphan = true ∨ se.parting ≠ none ∨ se.waiting ≠ some ⟨.status, true⟩ ∨ se.state = .detached) →
         exec (.settlementReport p) s = .next (s.withPort p { s.port p with
           session := { se with departure := .none }, wires := w })) ∧
       (se.orphan = false → se.parting = none → se.waiting = some ⟨.status, true⟩ → se.state ≠ .detached →
         exec (.settlementReport p) s = .next (s.withPort p { s.port p with
           session := { se with departure := .none, waiting := some ⟨.status, false⟩, asking := some Asked.start }
           wires := w })))) ∧
  (∀ (p : PortId) (s : State), (s.port p).wires.orphanReply = true → (s.port p).session.asking = none →
     let se := (s.port p).session
     let w : Wires := { (s.port p).wires with orphanReply := false }
     ((se.departure ≠ .none ∨ se.parting ≠ none ∨ se.waiting ≠ some ⟨.status, true⟩ ∨ se.state = .detached) →
       exec (.orphanCompletionReply p) s = .next (s.withPort p { s.port p with
         session := { se with orphan := false }, wires := w })) ∧
     (se.departure = .none → se.parting = none → se.waiting = some ⟨.status, true⟩ → se.state ≠ .detached →
       exec (.orphanCompletionReply p) s = .next (s.withPort p { s.port p with
         session := { se with orphan := false, waiting := some ⟨.status, false⟩, asking := some Asked.start }
         wires := w })))

/-- A rise of LINKP makes a DETACHED port RECOVERING, with cause RESET if it was not ATTACHED since RESET and
LINK_LOSS if it was; taken in another state it changes nothing but the report. A fall of LINKP makes the port
DETACHED: the lapse count and the waiting request go, the departure instruction is sent, and from ATTACHED also the
departure report, with orphan processing owed; from RECOVERING a departure is recorded unless one stands. While
DETACHED it changes nothing but the report. -/
def Obligations.LinkpMovesThePortState : Prop :=
  (∀ (p : PortId) (rest : List LinkpReport) (s : State), (s.port p).wires.linkpReports = .rising :: rest →
     (s.port p).session.asking = none →
     let se := (s.port p).session
     let after (se' : Session) : State := s.withPort p { s.port p with
       session := se', wires := { (s.port p).wires with linkpReports := rest } }
     (se.state = .detached → se.attachedSinceReset = false →
       exec (.reportOfLinkpRising p) s = .next (after { se with state := .recovering .reset })) ∧
     (se.state = .detached → se.attachedSinceReset = true →
       exec (.reportOfLinkpRising p) s = .next (after { se with state := .recovering .linkLoss })) ∧
     (se.state ≠ .detached → exec (.reportOfLinkpRising p) s = .next (after se))) ∧
  (∀ (p : PortId) (rest : List LinkpReport) (s : State), (s.port p).wires.linkpReports = .falling :: rest →
     (s.port p).session.asking = none →
     let se := (s.port p).session
     let w : Wires := { (s.port p).wires with linkpReports := rest }
     let gone (d : Departure) : Session := { se with
       state := .detached, lapseCount := none, departure := d, waiting := none, removed := se.removed || se.waiting.isSome }
     (se.state = .attached → exec (.reportOfLinkpFalling p) s = .next (s.withPort p { s.port p with
       session := gone (.awaiting true)
       wires := { w with fromSession := w.fromSession ++ [.departure true], toQueue := w.toQueue ++ [.departure] } })) ∧
     (∀ cause, se.state = .recovering cause → exec (.reportOfLinkpFalling p) s = .next (s.withPort p { s.port p with
       session := gone (if se.departure = .none then .awaiting false else se.departure)
       wires := { w with fromSession := w.fromSession ++ [.departure true] } })) ∧
     (se.state = .detached → exec (.reportOfLinkpFalling p) s = .next (s.withPort p { s.port p with wires := w })))

/-- STATUS: with a departure, orphan processing or a parting under way it is held; in DETACHED it waits for its
withdrawal (DEDUCED, log 16). Otherwise its four questions are taken one by one, each answered by its block from its
state at that moment, behind what the session controller sent that block before, and events of other ports may fall
between them (R160, R168; the four steps are the model's form, log 28). The last answer ends it: a RECOVERING port
becomes ATTACHED with its lapse count started and the attachment report sent, an ATTACHED port stays, and the request
is completed OK with the results of R168. While it is being answered no other event of its session controller takes
place, and a question that has its answer leaves the state (log 28); so does one that comes before what the session
controller sent its block has been taken (DESIGN CHOICE, log 1). Four questions asked one after the other complete it
with the values of one moment. -/
def Obligations.StatusAttachesOrIsHeld : Prop :=
  (∀ (p : PortId) (mark : Bool) (question : StatusQuestion) (s : State), SessionRequested s p ⟨.status, mark⟩ →
    let se := (s.port p).session
    let w := (s.port p).wires
    let idle := se.departure = .none ∧ se.orphan = false ∧ se.parting = none
    let asked := se.asking.getD Asked.start
    let answered := s.answer p asked question
    let run := exec (.status ⟨p, question⟩) s
    (se.state = .detached → run = .next s) ∧
    (¬ idle → se.state ≠ .detached →
      run = .next (s.withPort p { s.port p with session := { se with waiting := some ⟨.status, true⟩ } })) ∧
    (idle → se.state ≠ .detached → (asked.has question = true ∨ w.reached question = false) → run = .next s) ∧
    (idle → se.state ≠ .detached → asked.has question = false → w.reached question = true →
      ((∃ other, answered.has other = false) →
        run = .next (s.withPort p { s.port p with session := { se with asking := some answered } })) ∧
      ((∀ other, answered.has other = true) → ∃ record, se.record answered = some record ∧
        (∀ cause, se.state = .recovering cause → run = .next (s.withPort p ({ s.port p with
          session := { se with
            state := .attached, attachedSinceReset := true, waiting := none, asking := none,
            lapseCount := if se.heartbeat = 0 then none else some se.heartbeat.toNat }
          wires := { w with toQueue := w.toQueue ++ [ToQueue.attachment] } }.answered .ok (.status record)))) ∧
        (se.state = .attached → run = .next (s.withPort p ({ s.port p with
          session := { se with waiting := none, asking := none } }.answered .ok (.status record))))))) ∧
  (∀ (p : PortId) (a : Asked) (s : State),
    let q := (s.port p).queue
    s.answer p a .noticeCount = { a with notices := some (q.items.countP (fun it => !it.inFlight),
      q.marker.map fun m => min (m.dropped + (m.later.map Prod.snd).getD 0) 65535) } ∧
    s.answer p a .entryCount = { a with
      entries := some ((List.finRange 64).countP fun i => (s.entry i).any fun e => decide (e.port = p)) } ∧
    s.answer p a .timebaseValue = { a with value := some s.timebase.value } ∧
    ∃ ls, s.answer p a .ownedLines = { a with lines := some ls } ∧ ∀ k, hasLine ls k = true ↔ (s.line k).owner = some p) ∧
  (∀ (a : Asked) (w : Wires) (se : Session) (n k : Nat) (m : Option Nat) (ls : LineSet) (v : Tick),
    (a.has .noticeCount = true ↔ a.notices ≠ none) ∧ (a.has .ownedLines = true ↔ a.lines ≠ none) ∧
    (a.has .entryCount = true ↔ a.entries ≠ none) ∧ (a.has .timebaseValue = true ↔ a.value ≠ none) ∧
    Asked.start = ⟨none, none, none, none⟩ ∧
    (w.reached .noticeCount = true ↔ w.toQueue = []) ∧ (w.reached .ownedLines = true ↔ w.toLines = []) ∧
    (w.reached .entryCount = true ↔ w.partingRequest = false) ∧ w.reached .timebaseValue = true ∧
    se.record ⟨some (n, m), some ls, some k, some v⟩ = some {
      previous := se.state, notices := n, marker := m, heartbeat := se.heartbeat, ownedLines := ls, pendingEntries := k,
      timebaseValue := v }) ∧
  (∀ (p : PortId) (mark : Bool) (s : State), SessionRequested s p ⟨.status, mark⟩ →
    (s.port p).session.asking = none → (s.port p).wires.toQueue = [] → (s.port p).wires.toLines = [] →
    (s.port p).wires.partingRequest = false → (s.port p).session.departure = .none → (s.port p).session.orphan = false →
    (s.port p).session.parting = none → (s.port p).session.state ≠ .detached →
    let se := (s.port p).session
    let q := (s.port p).queue
    ∃ (record : StatusRecord) (pt : Port),
      runSteps [.status ⟨p, .noticeCount⟩, .status ⟨p, .ownedLines⟩, .status ⟨p, .entryCount⟩, .status ⟨p, .timebaseValue⟩] s =
        .next (s.withPort p (pt.answered .ok (.status record))) ∧
      record.previous = se.state ∧ record.notices = q.items.countP (fun it => !it.inFlight) ∧
      record.marker = q.marker.map (fun m => min (m.dropped + (m.later.map Prod.snd).getD 0) 65535) ∧
      record.heartbeat = se.heartbeat ∧ (∀ k, hasLine record.ownedLines k = true ↔ (s.line k).owner = some p) ∧
      record.pendingEntries = (List.finRange 64).countP (fun i => (s.entry i).any fun e => decide (e.port = p)) ∧
      record.timebaseValue = s.timebase.value ∧ pt.session.state = .attached ∧ pt.session.waiting = none) ∧
  (∀ (p : PortId) (c : Instr) (s : State), (s.port p).session.asking ≠ none →
    c ∈ [Instr.reportOfLinkpRising p, .reportOfLinkpFalling p, .sessionControllerTick p, .lapse p, .acceptanceReport p,
      .settlementReport p, .withdrawalRequest p .session, .orphanCompletionReply p, .partingStepReply p, .flushReply p] →
    exec c s = .next s)

/-- PARTING starts with step 1 and the parting request. That the session controller takes it in any port state is the
model's reading of R165 beside R174, which speaks of an ATTACHED port (DEDUCED, log 16). Each reply to steps 1 to 4
records its count and sends the request of the next step, the line step going to the line table and the flush to the
notice queue behind what was sent there before. The reply to the flush ends the parting: the interval becomes 0, the
lapse count and the parting absent, the request is completed OK with the four counts, and a held STATUS that nothing
holds any more is taken in the same event: it begins (log 28). -/
def Obligations.PartingRunsItsSteps : Prop :=
  (∀ (p : PortId) (s : State),
     let se := (s.port p).session
     let w := (s.port p).wires
     (∀ mark, SessionRequested s p ⟨.parting, mark⟩ → exec (.parting p) s = .next (s.withPort p { s.port p with
       session := { se with waiting := none, parting := some ⟨.entries, 0, 0, 0, 0⟩ }
       wires := { w with partingRequest := true } })) ∧
     ∀ (n a b c d : Nat), w.partingReply = some n → se.asking = none →
       let onward (pa : Parting) (w' : Wires) : State := s.withPort p { s.port p with
         session := { se with parting := some pa }, wires := { w' with partingReply := none } }
       (se.parting = some ⟨.entries, a, b, c, d⟩ → exec (.partingStepReply p) s =
         .next (onward ⟨.lines, n, b, c, d⟩ { w with toLines := w.toLines ++ [.lineStep] })) ∧
       (se.parting = some ⟨.lines, a, b, c, d⟩ → exec (.partingStepReply p) s =
         .next (onward ⟨.segments, a, n, c, d⟩ { w with partingRequest := true })) ∧
       (se.parting = some ⟨.segments, a, b, c, d⟩ → exec (.partingStepReply p) s =
         .next (onward ⟨.subscriptions, a, b, n, d⟩ { w with partingRequest := true })) ∧
       (se.parting = some ⟨.subscriptions, a, b, c, d⟩ → exec (.partingStepReply p) s =
         .next (onward ⟨.flush, a, b, c, n⟩ { w with toQueue := w.toQueue ++ [.flush] }))) ∧
  (∀ (p : PortId) (n a b c d : Nat) (s : State), (s.port p).session.parting = some ⟨.flush, a, b, c, d⟩ →
     (s.port p).wires.partingReply = some n → (s.port p).session.asking = none →
     let se := (s.port p).session
     let ended : Session := { se with heartbeat := 0, lapseCount := none, parting := none }
     let after (se' : Session) : State := s.withPort p ({ s.port p with
       session := se', wires := { (s.port p).wires with partingReply := none } }.answered .ok (.parting a b c d))
     ((se.waiting ≠ some ⟨.status, true⟩ ∨ se.departure ≠ .none ∨ se.orphan = true ∨ se.state = .detached) →
       exec (.flushReply p) s = .next (after ended)) ∧
     (se.waiting = some ⟨.status, true⟩ → se.departure = .none → se.orphan = false → se.state ≠ .detached →
       exec (.flushReply p) s =
         .next (after { ended with waiting := some ⟨.status, false⟩, asking := some Asked.start })))

/-! ### Laws that every step keeps -/

/-- The laws hold after RESET. -/
def Obligations.LawsHoldAtReset : Prop :=
  LineLaw State.reset ∧ StoreLaw State.reset ∧ CollisionLaw State.reset ∧ CountLaw State.reset ∧ SegmentLaw State.reset ∧
    OwnershipLaw State.reset ∧ SafeLevelLaw State.reset ∧ QueueLaw State.reset ∧ ResetLaw State.reset ∧ LapseLaw State.reset ∧
    TimebaseLaw State.reset ∧ ClockLaw State.reset ∧ DueLaw State.reset ∧ TickLaw State.reset

/-- Every step keeps the law of the line records. Every step keeps the segments within the store and disjoint. Every
step keeps the counts of entries and subscriptions in their ranges. Every step keeps at most one tick under way to
each taker, the last one made (R3, with the gate of log 22). -/
def Obligations.StepsKeepTheRecords : Prop :=
  (∀ s t : State, LineLaw s → step s = .next t → LineLaw t) ∧
  (∀ s t : State, StoreLaw s → step s = .next t → StoreLaw t) ∧
  (∀ s t : State, CountLaw s → step s = .next t → CountLaw t) ∧
  (∀ s t : State, TickLaw s → step s = .next t → TickLaw t)

/-- Every step keeps the law of the due queue and of the waiting list. -/
def Obligations.StepsKeepTheCollisionLaw : Prop := ∀ s t : State, CollisionLaw s → step s = .next t → CollisionLaw t

/-- Every step keeps the laws of the notice queues. -/
def Obligations.StepsKeepTheQueueLaw : Prop := ∀ s t : State, QueueLaw s → step s = .next t → QueueLaw t

/-- Every step keeps the clock of the schedule unit and the due ticks within the horizon. -/
def Obligations.StepsKeepTheDueLaw : Prop :=
  ∀ s t : State, ClockLaw s → DueLaw s → step s = .next t → ClockLaw t ∧ DueLaw t

/-- Every step keeps the timebase in its ranges, holds everything at its value while RESET is asserted, and keeps the
lapse counts between 1 and the interval of an ATTACHED port. -/
def Obligations.StepsKeepResetAndLapse : Prop :=
  ∀ s t : State, TimebaseLaw s → ResetLaw s → LapseLaw s → step s = .next t → TimebaseLaw t ∧ ResetLaw t ∧ LapseLaw t

/-- Every command keeps the segments of PATTERN entries allocated to the entry's port, but for the free step of a
parting, which keeps them when the port has no entry left. Every command keeps the lines of pending entries owned by
the entry's port and the unowned lines at their safe levels, but for the three safe returns, which keep both when no
pending entry stands on a line they give back. -/
def Obligations.CommandsKeepEntriesOwned : Prop :=
  (∀ (c : Instr) (s t : State), SegmentLaw s → exec c s = .next t →
     (∀ p, c = .freeStep p → ∀ i e, s.entry i = some e → e.port ≠ p) → SegmentLaw t) ∧
  (∀ (c : Instr) (s t : State), OwnershipLaw s → SafeLevelLaw s → exec c s = .next t →
     (∀ k, GivesBack s c k → ∀ i e, s.entry i = some e → hasLine e.lines k = false) →
     OwnershipLaw t ∧ SafeLevelLaw t)

/-! ### Which commands change what -/

/-- A line's level changes only by DRIVE, by a firing (EXPIRY, or the SCHEDULE of a FIRE_NOW entry), by a safe return
and by RESET. The words of the store change only by LOAD and RESET, and its records only by ALLOC, FREE, the free step
of a parting and RESET. The timebase value changes only by the tick and by RESET. -/
def Obligations.BlocksChangeOnlyByTheirEvents : Prop :=
  (∀ (c : Instr) (s t : State) (k : Fin 16), exec c s = .next t → (t.line k).level ≠ (s.line k).level →
     (∃ p, c = .drive p ∨ c = .schedule p ∨ c = .releaseCompletion p ∨ c = .orphanCompletion p ∨ c = .lineStep p) ∨
     (∃ i, c = .expiry i) ∨ c = .resetAssertion) ∧
  (∀ (c : Instr) (s t : State), exec c s = .next t →
     (t.store.words ≠ s.store.words → (∃ p, c = .load p) ∨ c = .resetAssertion) ∧
     (t.store.segments ≠ s.store.segments → (∃ p, c = .alloc p ∨ c = .free p ∨ c = .freeStep p) ∨ c = .resetAssertion)) ∧
  (∀ (c : Instr) (s t : State), exec c s = .next t → t.timebase.value ≠ s.timebase.value →
     (∃ levels, c = .tick levels ∨ c = .refclkPeriod levels) ∨ c = .resetAssertion)

/-- The link and session events of one port leave every other port and every block of the core as they were. -/
def Obligations.PortEventsStayInTheirPort : Prop :=
  ∀ (p : PortId) (question : StatusQuestion) (first : Vector Bool 8) (bits stray : List Bool) (edges : Nat) (b : Block)
    (source : NoticeSource) (c : Instr) (s t : State),
    c ∈ [Instr.status ⟨p, question⟩, .heartbeat p, .parting p, .fetch p, .sessionControllerTick p, .lapse p, .linkpFall ⟨p, edges⟩, .linkpRise p,
      .reportOfLinkpRising p, .reportOfLinkpFalling p, .windowOpen p, .opener p first, .commandWindowClose p bits stray,
      .responseWindowClose p edges, .acceptanceReport p, .acceptanceAnswer p, .completion p, .withdrawalRequest p b,
      .withdrawalReply p, .departureInstruction p, .settlementReport p, .departureReport p, .attachmentReport p,
      .acknowledgement p, .returnRequest p, .post p source, .orphanCompletionReply p, .flush p, .partingStepReply p,
      .flushReply p] →
    exec c s = .next t → ∃ pt : Port, t = s.withPort p pt
end

