-- ==== Sys2Proof/Laws/State.lean ====
section
/-! SUPPORT. One lemma per field per update of the state, true by rfl, and the reads of a port, a line and a slot after an
update. Later proofs unfold no record update of the state. -/

namespace Sys2Proof.Machine

/-! ### updPort -/

@[simp] theorem State.updPort_resetAsserted (s : State) (p : PortId) (f : Port → Port) : (s.updPort p f).resetAsserted = s.resetAsserted := rfl
@[simp] theorem State.updPort_inputPins (s : State) (p : PortId) (f : Port → Port) : (s.updPort p f).inputPins = s.inputPins := rfl
@[simp] theorem State.updPort_timebase (s : State) (p : PortId) (f : Port → Port) : (s.updPort p f).timebase = s.timebase := rfl
@[simp] theorem State.updPort_lines (s : State) (p : PortId) (f : Port → Port) : (s.updPort p f).lines = s.lines := rfl
@[simp] theorem State.updPort_schedule (s : State) (p : PortId) (f : Port → Port) : (s.updPort p f).schedule = s.schedule := rfl
@[simp] theorem State.updPort_store (s : State) (p : PortId) (f : Port → Port) : (s.updPort p f).store = s.store := rfl
@[simp] theorem State.updPort_trigger (s : State) (p : PortId) (f : Port → Port) : (s.updPort p f).trigger = s.trigger := rfl
@[simp] theorem State.updPort_ticksToSchedule (s : State) (p : PortId) (f : Port → Port) : (s.updPort p f).ticksToSchedule = s.ticksToSchedule := rfl
@[simp] theorem State.updPort_ticksToTrigger (s : State) (p : PortId) (f : Port → Port) : (s.updPort p f).ticksToTrigger = s.ticksToTrigger := rfl
@[simp] theorem State.updPort_releaseRequests (s : State) (p : PortId) (f : Port → Port) : (s.updPort p f).releaseRequests = s.releaseRequests := rfl
@[simp] theorem State.updPort_endOfTickReports (s : State) (p : PortId) (f : Port → Port) : (s.updPort p f).endOfTickReports = s.endOfTickReports := rfl
@[simp] theorem State.updPort_scheduleToLines (s : State) (p : PortId) (f : Port → Port) : (s.updPort p f).scheduleToLines = s.scheduleToLines := rfl
@[simp] theorem State.updPort_pending (s : State) (p : PortId) (f : Port → Port) : (s.updPort p f).pending = s.pending := rfl
@[simp] theorem State.updPort_line (s : State) (p : PortId) (f : Port → Port) (k : Fin 16) : (s.updPort p f).line k = s.line k := by
  simp only [State.line, State.updPort_lines]
@[simp] theorem State.updPort_slot (s : State) (p : PortId) (f : Port → Port) (k : SlotId) : (s.updPort p f).slot k = s.slot k := by
  simp only [State.slot, State.updPort_schedule]
@[simp] theorem State.updPort_entry (s : State) (p : PortId) (f : Port → Port) (k : SlotId) : (s.updPort p f).entry k = s.entry k := by
  simp only [State.entry, State.slot, State.updPort_schedule]

/-! ### updLink -/

@[simp] theorem State.updLink_resetAsserted (s : State) (p : PortId) (f : Link → Link) : (s.updLink p f).resetAsserted = s.resetAsserted := rfl
@[simp] theorem State.updLink_inputPins (s : State) (p : PortId) (f : Link → Link) : (s.updLink p f).inputPins = s.inputPins := rfl
@[simp] theorem State.updLink_timebase (s : State) (p : PortId) (f : Link → Link) : (s.updLink p f).timebase = s.timebase := rfl
@[simp] theorem State.updLink_lines (s : State) (p : PortId) (f : Link → Link) : (s.updLink p f).lines = s.lines := rfl
@[simp] theorem State.updLink_schedule (s : State) (p : PortId) (f : Link → Link) : (s.updLink p f).schedule = s.schedule := rfl
@[simp] theorem State.updLink_store (s : State) (p : PortId) (f : Link → Link) : (s.updLink p f).store = s.store := rfl
@[simp] theorem State.updLink_trigger (s : State) (p : PortId) (f : Link → Link) : (s.updLink p f).trigger = s.trigger := rfl
@[simp] theorem State.updLink_ticksToSchedule (s : State) (p : PortId) (f : Link → Link) : (s.updLink p f).ticksToSchedule = s.ticksToSchedule := rfl
@[simp] theorem State.updLink_ticksToTrigger (s : State) (p : PortId) (f : Link → Link) : (s.updLink p f).ticksToTrigger = s.ticksToTrigger := rfl
@[simp] theorem State.updLink_releaseRequests (s : State) (p : PortId) (f : Link → Link) : (s.updLink p f).releaseRequests = s.releaseRequests := rfl
@[simp] theorem State.updLink_endOfTickReports (s : State) (p : PortId) (f : Link → Link) : (s.updLink p f).endOfTickReports = s.endOfTickReports := rfl
@[simp] theorem State.updLink_scheduleToLines (s : State) (p : PortId) (f : Link → Link) : (s.updLink p f).scheduleToLines = s.scheduleToLines := rfl
@[simp] theorem State.updLink_pending (s : State) (p : PortId) (f : Link → Link) : (s.updLink p f).pending = s.pending := rfl
@[simp] theorem State.updLink_line (s : State) (p : PortId) (f : Link → Link) (k : Fin 16) : (s.updLink p f).line k = s.line k := by
  simp only [State.line, State.updLink_lines]
@[simp] theorem State.updLink_slot (s : State) (p : PortId) (f : Link → Link) (k : SlotId) : (s.updLink p f).slot k = s.slot k := by
  simp only [State.slot, State.updLink_schedule]
@[simp] theorem State.updLink_entry (s : State) (p : PortId) (f : Link → Link) (k : SlotId) : (s.updLink p f).entry k = s.entry k := by
  simp only [State.entry, State.slot, State.updLink_schedule]

/-! ### updSession -/

@[simp] theorem State.updSession_resetAsserted (s : State) (p : PortId) (f : Session → Session) : (s.updSession p f).resetAsserted = s.resetAsserted := rfl
@[simp] theorem State.updSession_inputPins (s : State) (p : PortId) (f : Session → Session) : (s.updSession p f).inputPins = s.inputPins := rfl
@[simp] theorem State.updSession_timebase (s : State) (p : PortId) (f : Session → Session) : (s.updSession p f).timebase = s.timebase := rfl
@[simp] theorem State.updSession_lines (s : State) (p : PortId) (f : Session → Session) : (s.updSession p f).lines = s.lines := rfl
@[simp] theorem State.updSession_schedule (s : State) (p : PortId) (f : Session → Session) : (s.updSession p f).schedule = s.schedule := rfl
@[simp] theorem State.updSession_store (s : State) (p : PortId) (f : Session → Session) : (s.updSession p f).store = s.store := rfl
@[simp] theorem State.updSession_trigger (s : State) (p : PortId) (f : Session → Session) : (s.updSession p f).trigger = s.trigger := rfl
@[simp] theorem State.updSession_ticksToSchedule (s : State) (p : PortId) (f : Session → Session) : (s.updSession p f).ticksToSchedule = s.ticksToSchedule := rfl
@[simp] theorem State.updSession_ticksToTrigger (s : State) (p : PortId) (f : Session → Session) : (s.updSession p f).ticksToTrigger = s.ticksToTrigger := rfl
@[simp] theorem State.updSession_releaseRequests (s : State) (p : PortId) (f : Session → Session) : (s.updSession p f).releaseRequests = s.releaseRequests := rfl
@[simp] theorem State.updSession_endOfTickReports (s : State) (p : PortId) (f : Session → Session) : (s.updSession p f).endOfTickReports = s.endOfTickReports := rfl
@[simp] theorem State.updSession_scheduleToLines (s : State) (p : PortId) (f : Session → Session) : (s.updSession p f).scheduleToLines = s.scheduleToLines := rfl
@[simp] theorem State.updSession_pending (s : State) (p : PortId) (f : Session → Session) : (s.updSession p f).pending = s.pending := rfl
@[simp] theorem State.updSession_line (s : State) (p : PortId) (f : Session → Session) (k : Fin 16) : (s.updSession p f).line k = s.line k := by
  simp only [State.line, State.updSession_lines]
@[simp] theorem State.updSession_slot (s : State) (p : PortId) (f : Session → Session) (k : SlotId) : (s.updSession p f).slot k = s.slot k := by
  simp only [State.slot, State.updSession_schedule]
@[simp] theorem State.updSession_entry (s : State) (p : PortId) (f : Session → Session) (k : SlotId) : (s.updSession p f).entry k = s.entry k := by
  simp only [State.entry, State.slot, State.updSession_schedule]

/-! ### updQueue -/

@[simp] theorem State.updQueue_resetAsserted (s : State) (p : PortId) (f : NoticeQueue → NoticeQueue) : (s.updQueue p f).resetAsserted = s.resetAsserted := rfl
@[simp] theorem State.updQueue_inputPins (s : State) (p : PortId) (f : NoticeQueue → NoticeQueue) : (s.updQueue p f).inputPins = s.inputPins := rfl
@[simp] theorem State.updQueue_timebase (s : State) (p : PortId) (f : NoticeQueue → NoticeQueue) : (s.updQueue p f).timebase = s.timebase := rfl
@[simp] theorem State.updQueue_lines (s : State) (p : PortId) (f : NoticeQueue → NoticeQueue) : (s.updQueue p f).lines = s.lines := rfl
@[simp] theorem State.updQueue_schedule (s : State) (p : PortId) (f : NoticeQueue → NoticeQueue) : (s.updQueue p f).schedule = s.schedule := rfl
@[simp] theorem State.updQueue_store (s : State) (p : PortId) (f : NoticeQueue → NoticeQueue) : (s.updQueue p f).store = s.store := rfl
@[simp] theorem State.updQueue_trigger (s : State) (p : PortId) (f : NoticeQueue → NoticeQueue) : (s.updQueue p f).trigger = s.trigger := rfl
@[simp] theorem State.updQueue_ticksToSchedule (s : State) (p : PortId) (f : NoticeQueue → NoticeQueue) : (s.updQueue p f).ticksToSchedule = s.ticksToSchedule := rfl
@[simp] theorem State.updQueue_ticksToTrigger (s : State) (p : PortId) (f : NoticeQueue → NoticeQueue) : (s.updQueue p f).ticksToTrigger = s.ticksToTrigger := rfl
@[simp] theorem State.updQueue_releaseRequests (s : State) (p : PortId) (f : NoticeQueue → NoticeQueue) : (s.updQueue p f).releaseRequests = s.releaseRequests := rfl
@[simp] theorem State.updQueue_endOfTickReports (s : State) (p : PortId) (f : NoticeQueue → NoticeQueue) : (s.updQueue p f).endOfTickReports = s.endOfTickReports := rfl
@[simp] theorem State.updQueue_scheduleToLines (s : State) (p : PortId) (f : NoticeQueue → NoticeQueue) : (s.updQueue p f).scheduleToLines = s.scheduleToLines := rfl
@[simp] theorem State.updQueue_pending (s : State) (p : PortId) (f : NoticeQueue → NoticeQueue) : (s.updQueue p f).pending = s.pending := rfl
@[simp] theorem State.updQueue_line (s : State) (p : PortId) (f : NoticeQueue → NoticeQueue) (k : Fin 16) : (s.updQueue p f).line k = s.line k := by
  simp only [State.line, State.updQueue_lines]
@[simp] theorem State.updQueue_slot (s : State) (p : PortId) (f : NoticeQueue → NoticeQueue) (k : SlotId) : (s.updQueue p f).slot k = s.slot k := by
  simp only [State.slot, State.updQueue_schedule]
@[simp] theorem State.updQueue_entry (s : State) (p : PortId) (f : NoticeQueue → NoticeQueue) (k : SlotId) : (s.updQueue p f).entry k = s.entry k := by
  simp only [State.entry, State.slot, State.updQueue_schedule]

/-! ### updWires -/

@[simp] theorem State.updWires_resetAsserted (s : State) (p : PortId) (f : Wires → Wires) : (s.updWires p f).resetAsserted = s.resetAsserted := rfl
@[simp] theorem State.updWires_inputPins (s : State) (p : PortId) (f : Wires → Wires) : (s.updWires p f).inputPins = s.inputPins := rfl
@[simp] theorem State.updWires_timebase (s : State) (p : PortId) (f : Wires → Wires) : (s.updWires p f).timebase = s.timebase := rfl
@[simp] theorem State.updWires_lines (s : State) (p : PortId) (f : Wires → Wires) : (s.updWires p f).lines = s.lines := rfl
@[simp] theorem State.updWires_schedule (s : State) (p : PortId) (f : Wires → Wires) : (s.updWires p f).schedule = s.schedule := rfl
@[simp] theorem State.updWires_store (s : State) (p : PortId) (f : Wires → Wires) : (s.updWires p f).store = s.store := rfl
@[simp] theorem State.updWires_trigger (s : State) (p : PortId) (f : Wires → Wires) : (s.updWires p f).trigger = s.trigger := rfl
@[simp] theorem State.updWires_ticksToSchedule (s : State) (p : PortId) (f : Wires → Wires) : (s.updWires p f).ticksToSchedule = s.ticksToSchedule := rfl
@[simp] theorem State.updWires_ticksToTrigger (s : State) (p : PortId) (f : Wires → Wires) : (s.updWires p f).ticksToTrigger = s.ticksToTrigger := rfl
@[simp] theorem State.updWires_releaseRequests (s : State) (p : PortId) (f : Wires → Wires) : (s.updWires p f).releaseRequests = s.releaseRequests := rfl
@[simp] theorem State.updWires_endOfTickReports (s : State) (p : PortId) (f : Wires → Wires) : (s.updWires p f).endOfTickReports = s.endOfTickReports := rfl
@[simp] theorem State.updWires_scheduleToLines (s : State) (p : PortId) (f : Wires → Wires) : (s.updWires p f).scheduleToLines = s.scheduleToLines := rfl
@[simp] theorem State.updWires_pending (s : State) (p : PortId) (f : Wires → Wires) : (s.updWires p f).pending = s.pending := rfl
@[simp] theorem State.updWires_line (s : State) (p : PortId) (f : Wires → Wires) (k : Fin 16) : (s.updWires p f).line k = s.line k := by
  simp only [State.line, State.updWires_lines]
@[simp] theorem State.updWires_slot (s : State) (p : PortId) (f : Wires → Wires) (k : SlotId) : (s.updWires p f).slot k = s.slot k := by
  simp only [State.slot, State.updWires_schedule]
@[simp] theorem State.updWires_entry (s : State) (p : PortId) (f : Wires → Wires) (k : SlotId) : (s.updWires p f).entry k = s.entry k := by
  simp only [State.entry, State.slot, State.updWires_schedule]

/-! ### reply -/

@[simp] theorem State.reply_resetAsserted (s : State) (p : PortId) (st : Status) (r : Result) : (s.reply p st r).resetAsserted = s.resetAsserted := rfl
@[simp] theorem State.reply_inputPins (s : State) (p : PortId) (st : Status) (r : Result) : (s.reply p st r).inputPins = s.inputPins := rfl
@[simp] theorem State.reply_timebase (s : State) (p : PortId) (st : Status) (r : Result) : (s.reply p st r).timebase = s.timebase := rfl
@[simp] theorem State.reply_lines (s : State) (p : PortId) (st : Status) (r : Result) : (s.reply p st r).lines = s.lines := rfl
@[simp] theorem State.reply_schedule (s : State) (p : PortId) (st : Status) (r : Result) : (s.reply p st r).schedule = s.schedule := rfl
@[simp] theorem State.reply_store (s : State) (p : PortId) (st : Status) (r : Result) : (s.reply p st r).store = s.store := rfl
@[simp] theorem State.reply_trigger (s : State) (p : PortId) (st : Status) (r : Result) : (s.reply p st r).trigger = s.trigger := rfl
@[simp] theorem State.reply_ticksToSchedule (s : State) (p : PortId) (st : Status) (r : Result) : (s.reply p st r).ticksToSchedule = s.ticksToSchedule := rfl
@[simp] theorem State.reply_ticksToTrigger (s : State) (p : PortId) (st : Status) (r : Result) : (s.reply p st r).ticksToTrigger = s.ticksToTrigger := rfl
@[simp] theorem State.reply_releaseRequests (s : State) (p : PortId) (st : Status) (r : Result) : (s.reply p st r).releaseRequests = s.releaseRequests := rfl
@[simp] theorem State.reply_endOfTickReports (s : State) (p : PortId) (st : Status) (r : Result) : (s.reply p st r).endOfTickReports = s.endOfTickReports := rfl
@[simp] theorem State.reply_scheduleToLines (s : State) (p : PortId) (st : Status) (r : Result) : (s.reply p st r).scheduleToLines = s.scheduleToLines := rfl
@[simp] theorem State.reply_pending (s : State) (p : PortId) (st : Status) (r : Result) : (s.reply p st r).pending = s.pending := rfl
@[simp] theorem State.reply_line (s : State) (p : PortId) (st : Status) (r : Result) (k : Fin 16) : (s.reply p st r).line k = s.line k := by
  simp only [State.line, State.reply_lines]
@[simp] theorem State.reply_slot (s : State) (p : PortId) (st : Status) (r : Result) (k : SlotId) : (s.reply p st r).slot k = s.slot k := by
  simp only [State.slot, State.reply_schedule]
@[simp] theorem State.reply_entry (s : State) (p : PortId) (st : Status) (r : Result) (k : SlotId) : (s.reply p st r).entry k = s.entry k := by
  simp only [State.entry, State.slot, State.reply_schedule]

/-! ### finish -/

@[simp] theorem State.finish_resetAsserted (s : State) (p : PortId) (st : Status) (r : Result) : (s.finish p st r).resetAsserted = s.resetAsserted := rfl
@[simp] theorem State.finish_inputPins (s : State) (p : PortId) (st : Status) (r : Result) : (s.finish p st r).inputPins = s.inputPins := rfl
@[simp] theorem State.finish_timebase (s : State) (p : PortId) (st : Status) (r : Result) : (s.finish p st r).timebase = s.timebase := rfl
@[simp] theorem State.finish_lines (s : State) (p : PortId) (st : Status) (r : Result) : (s.finish p st r).lines = s.lines := rfl
@[simp] theorem State.finish_schedule (s : State) (p : PortId) (st : Status) (r : Result) : (s.finish p st r).schedule = s.schedule := rfl
@[simp] theorem State.finish_store (s : State) (p : PortId) (st : Status) (r : Result) : (s.finish p st r).store = s.store := rfl
@[simp] theorem State.finish_trigger (s : State) (p : PortId) (st : Status) (r : Result) : (s.finish p st r).trigger = s.trigger := rfl
@[simp] theorem State.finish_ticksToSchedule (s : State) (p : PortId) (st : Status) (r : Result) : (s.finish p st r).ticksToSchedule = s.ticksToSchedule := rfl
@[simp] theorem State.finish_ticksToTrigger (s : State) (p : PortId) (st : Status) (r : Result) : (s.finish p st r).ticksToTrigger = s.ticksToTrigger := rfl
@[simp] theorem State.finish_releaseRequests (s : State) (p : PortId) (st : Status) (r : Result) : (s.finish p st r).releaseRequests = s.releaseRequests := rfl
@[simp] theorem State.finish_endOfTickReports (s : State) (p : PortId) (st : Status) (r : Result) : (s.finish p st r).endOfTickReports = s.endOfTickReports := rfl
@[simp] theorem State.finish_scheduleToLines (s : State) (p : PortId) (st : Status) (r : Result) : (s.finish p st r).scheduleToLines = s.scheduleToLines := rfl
@[simp] theorem State.finish_pending (s : State) (p : PortId) (st : Status) (r : Result) : (s.finish p st r).pending = s.pending := rfl
@[simp] theorem State.finish_line (s : State) (p : PortId) (st : Status) (r : Result) (k : Fin 16) : (s.finish p st r).line k = s.line k := by
  simp only [State.line, State.finish_lines]
@[simp] theorem State.finish_slot (s : State) (p : PortId) (st : Status) (r : Result) (k : SlotId) : (s.finish p st r).slot k = s.slot k := by
  simp only [State.slot, State.finish_schedule]
@[simp] theorem State.finish_entry (s : State) (p : PortId) (st : Status) (r : Result) (k : SlotId) : (s.finish p st r).entry k = s.entry k := by
  simp only [State.entry, State.slot, State.finish_schedule]

/-! ### postSchedule -/

@[simp] theorem State.postSchedule_resetAsserted (s : State) (p : PortId) (ns : List Notice) : (s.postSchedule p ns).resetAsserted = s.resetAsserted := rfl
@[simp] theorem State.postSchedule_inputPins (s : State) (p : PortId) (ns : List Notice) : (s.postSchedule p ns).inputPins = s.inputPins := rfl
@[simp] theorem State.postSchedule_timebase (s : State) (p : PortId) (ns : List Notice) : (s.postSchedule p ns).timebase = s.timebase := rfl
@[simp] theorem State.postSchedule_lines (s : State) (p : PortId) (ns : List Notice) : (s.postSchedule p ns).lines = s.lines := rfl
@[simp] theorem State.postSchedule_schedule (s : State) (p : PortId) (ns : List Notice) : (s.postSchedule p ns).schedule = s.schedule := rfl
@[simp] theorem State.postSchedule_store (s : State) (p : PortId) (ns : List Notice) : (s.postSchedule p ns).store = s.store := rfl
@[simp] theorem State.postSchedule_trigger (s : State) (p : PortId) (ns : List Notice) : (s.postSchedule p ns).trigger = s.trigger := rfl
@[simp] theorem State.postSchedule_ticksToSchedule (s : State) (p : PortId) (ns : List Notice) : (s.postSchedule p ns).ticksToSchedule = s.ticksToSchedule := rfl
@[simp] theorem State.postSchedule_ticksToTrigger (s : State) (p : PortId) (ns : List Notice) : (s.postSchedule p ns).ticksToTrigger = s.ticksToTrigger := rfl
@[simp] theorem State.postSchedule_releaseRequests (s : State) (p : PortId) (ns : List Notice) : (s.postSchedule p ns).releaseRequests = s.releaseRequests := rfl
@[simp] theorem State.postSchedule_endOfTickReports (s : State) (p : PortId) (ns : List Notice) : (s.postSchedule p ns).endOfTickReports = s.endOfTickReports := rfl
@[simp] theorem State.postSchedule_scheduleToLines (s : State) (p : PortId) (ns : List Notice) : (s.postSchedule p ns).scheduleToLines = s.scheduleToLines := rfl
@[simp] theorem State.postSchedule_pending (s : State) (p : PortId) (ns : List Notice) : (s.postSchedule p ns).pending = s.pending := rfl
@[simp] theorem State.postSchedule_line (s : State) (p : PortId) (ns : List Notice) (k : Fin 16) : (s.postSchedule p ns).line k = s.line k := by
  simp only [State.line, State.postSchedule_lines]
@[simp] theorem State.postSchedule_slot (s : State) (p : PortId) (ns : List Notice) (k : SlotId) : (s.postSchedule p ns).slot k = s.slot k := by
  simp only [State.slot, State.postSchedule_schedule]
@[simp] theorem State.postSchedule_entry (s : State) (p : PortId) (ns : List Notice) (k : SlotId) : (s.postSchedule p ns).entry k = s.entry k := by
  simp only [State.entry, State.slot, State.postSchedule_schedule]

/-! ### postTrigger -/

@[simp] theorem State.postTrigger_resetAsserted (s : State) (p : PortId) (n : Notice) : (s.postTrigger p n).resetAsserted = s.resetAsserted := rfl
@[simp] theorem State.postTrigger_inputPins (s : State) (p : PortId) (n : Notice) : (s.postTrigger p n).inputPins = s.inputPins := rfl
@[simp] theorem State.postTrigger_timebase (s : State) (p : PortId) (n : Notice) : (s.postTrigger p n).timebase = s.timebase := rfl
@[simp] theorem State.postTrigger_lines (s : State) (p : PortId) (n : Notice) : (s.postTrigger p n).lines = s.lines := rfl
@[simp] theorem State.postTrigger_schedule (s : State) (p : PortId) (n : Notice) : (s.postTrigger p n).schedule = s.schedule := rfl
@[simp] theorem State.postTrigger_store (s : State) (p : PortId) (n : Notice) : (s.postTrigger p n).store = s.store := rfl
@[simp] theorem State.postTrigger_trigger (s : State) (p : PortId) (n : Notice) : (s.postTrigger p n).trigger = s.trigger := rfl
@[simp] theorem State.postTrigger_ticksToSchedule (s : State) (p : PortId) (n : Notice) : (s.postTrigger p n).ticksToSchedule = s.ticksToSchedule := rfl
@[simp] theorem State.postTrigger_ticksToTrigger (s : State) (p : PortId) (n : Notice) : (s.postTrigger p n).ticksToTrigger = s.ticksToTrigger := rfl
@[simp] theorem State.postTrigger_releaseRequests (s : State) (p : PortId) (n : Notice) : (s.postTrigger p n).releaseRequests = s.releaseRequests := rfl
@[simp] theorem State.postTrigger_endOfTickReports (s : State) (p : PortId) (n : Notice) : (s.postTrigger p n).endOfTickReports = s.endOfTickReports := rfl
@[simp] theorem State.postTrigger_scheduleToLines (s : State) (p : PortId) (n : Notice) : (s.postTrigger p n).scheduleToLines = s.scheduleToLines := rfl
@[simp] theorem State.postTrigger_pending (s : State) (p : PortId) (n : Notice) : (s.postTrigger p n).pending = s.pending := rfl
@[simp] theorem State.postTrigger_line (s : State) (p : PortId) (n : Notice) (k : Fin 16) : (s.postTrigger p n).line k = s.line k := by
  simp only [State.line, State.postTrigger_lines]
@[simp] theorem State.postTrigger_slot (s : State) (p : PortId) (n : Notice) (k : SlotId) : (s.postTrigger p n).slot k = s.slot k := by
  simp only [State.slot, State.postTrigger_schedule]
@[simp] theorem State.postTrigger_entry (s : State) (p : PortId) (n : Notice) (k : SlotId) : (s.postTrigger p n).entry k = s.entry k := by
  simp only [State.entry, State.slot, State.postTrigger_schedule]

/-! ### updLines -/

@[simp] theorem State.updLines_resetAsserted (s : State) (f : Fin 16 → Line → Line) : (s.updLines f).resetAsserted = s.resetAsserted := by
  simp only [State.updLines]
@[simp] theorem State.updLines_inputPins (s : State) (f : Fin 16 → Line → Line) : (s.updLines f).inputPins = s.inputPins := by
  simp only [State.updLines]
@[simp] theorem State.updLines_timebase (s : State) (f : Fin 16 → Line → Line) : (s.updLines f).timebase = s.timebase := by
  simp only [State.updLines]
@[simp] theorem State.updLines_schedule (s : State) (f : Fin 16 → Line → Line) : (s.updLines f).schedule = s.schedule := by
  simp only [State.updLines]
@[simp] theorem State.updLines_store (s : State) (f : Fin 16 → Line → Line) : (s.updLines f).store = s.store := by
  simp only [State.updLines]
@[simp] theorem State.updLines_trigger (s : State) (f : Fin 16 → Line → Line) : (s.updLines f).trigger = s.trigger := by
  simp only [State.updLines]
@[simp] theorem State.updLines_ports (s : State) (f : Fin 16 → Line → Line) : (s.updLines f).ports = s.ports := by
  simp only [State.updLines]
@[simp] theorem State.updLines_ticksToSchedule (s : State) (f : Fin 16 → Line → Line) : (s.updLines f).ticksToSchedule = s.ticksToSchedule := by
  simp only [State.updLines]
@[simp] theorem State.updLines_ticksToTrigger (s : State) (f : Fin 16 → Line → Line) : (s.updLines f).ticksToTrigger = s.ticksToTrigger := by
  simp only [State.updLines]
@[simp] theorem State.updLines_releaseRequests (s : State) (f : Fin 16 → Line → Line) : (s.updLines f).releaseRequests = s.releaseRequests := by
  simp only [State.updLines]
@[simp] theorem State.updLines_endOfTickReports (s : State) (f : Fin 16 → Line → Line) : (s.updLines f).endOfTickReports = s.endOfTickReports := by
  simp only [State.updLines]
@[simp] theorem State.updLines_scheduleToLines (s : State) (f : Fin 16 → Line → Line) : (s.updLines f).scheduleToLines = s.scheduleToLines := by
  simp only [State.updLines]
@[simp] theorem State.updLines_pending (s : State) (f : Fin 16 → Line → Line) : (s.updLines f).pending = s.pending := by
  simp only [State.updLines]
@[simp] theorem State.updLines_port (s : State) (f : Fin 16 → Line → Line) (k : PortId) : (s.updLines f).port k = s.port k := by
  simp only [State.port, State.updLines_ports]
@[simp] theorem State.updLines_slot (s : State) (f : Fin 16 → Line → Line) (k : SlotId) : (s.updLines f).slot k = s.slot k := by
  simp only [State.slot, State.updLines_schedule]
@[simp] theorem State.updLines_entry (s : State) (f : Fin 16 → Line → Line) (k : SlotId) : (s.updLines f).entry k = s.entry k := by
  simp only [State.entry, State.slot, State.updLines_schedule]

/-! ### returnLines -/

@[simp] theorem State.returnLines_resetAsserted (s : State) (f : Fin 16 → Line → Bool) : (s.returnLines f).resetAsserted = s.resetAsserted :=
  State.updLines_resetAsserted _ _
@[simp] theorem State.returnLines_inputPins (s : State) (f : Fin 16 → Line → Bool) : (s.returnLines f).inputPins = s.inputPins :=
  State.updLines_inputPins _ _
@[simp] theorem State.returnLines_timebase (s : State) (f : Fin 16 → Line → Bool) : (s.returnLines f).timebase = s.timebase :=
  State.updLines_timebase _ _
@[simp] theorem State.returnLines_schedule (s : State) (f : Fin 16 → Line → Bool) : (s.returnLines f).schedule = s.schedule :=
  State.updLines_schedule _ _
@[simp] theorem State.returnLines_store (s : State) (f : Fin 16 → Line → Bool) : (s.returnLines f).store = s.store :=
  State.updLines_store _ _
@[simp] theorem State.returnLines_trigger (s : State) (f : Fin 16 → Line → Bool) : (s.returnLines f).trigger = s.trigger :=
  State.updLines_trigger _ _
@[simp] theorem State.returnLines_ports (s : State) (f : Fin 16 → Line → Bool) : (s.returnLines f).ports = s.ports :=
  State.updLines_ports _ _
@[simp] theorem State.returnLines_ticksToSchedule (s : State) (f : Fin 16 → Line → Bool) : (s.returnLines f).ticksToSchedule = s.ticksToSchedule :=
  State.updLines_ticksToSchedule _ _
@[simp] theorem State.returnLines_ticksToTrigger (s : State) (f : Fin 16 → Line → Bool) : (s.returnLines f).ticksToTrigger = s.ticksToTrigger :=
  State.updLines_ticksToTrigger _ _
@[simp] theorem State.returnLines_releaseRequests (s : State) (f : Fin 16 → Line → Bool) : (s.returnLines f).releaseRequests = s.releaseRequests :=
  State.updLines_releaseRequests _ _
@[simp] theorem State.returnLines_endOfTickReports (s : State) (f : Fin 16 → Line → Bool) : (s.returnLines f).endOfTickReports = s.endOfTickReports :=
  State.updLines_endOfTickReports _ _
@[simp] theorem State.returnLines_scheduleToLines (s : State) (f : Fin 16 → Line → Bool) : (s.returnLines f).scheduleToLines = s.scheduleToLines :=
  State.updLines_scheduleToLines _ _
@[simp] theorem State.returnLines_pending (s : State) (f : Fin 16 → Line → Bool) : (s.returnLines f).pending = s.pending :=
  State.updLines_pending _ _
@[simp] theorem State.returnLines_port (s : State) (f : Fin 16 → Line → Bool) (k : PortId) : (s.returnLines f).port k = s.port k :=
  State.updLines_port _ _ _
@[simp] theorem State.returnLines_slot (s : State) (f : Fin 16 → Line → Bool) (k : SlotId) : (s.returnLines f).slot k = s.slot k := by
  simp only [State.slot, State.returnLines_schedule]
@[simp] theorem State.returnLines_entry (s : State) (f : Fin 16 → Line → Bool) (k : SlotId) : (s.returnLines f).entry k = s.entry k := by
  simp only [State.entry, State.slot, State.returnLines_schedule]

/-! ### applyFiring -/

@[simp] theorem State.applyFiring_resetAsserted (s : State) (a : FiringAction) (ls : LineSet) : (s.applyFiring a ls).resetAsserted = s.resetAsserted :=
  State.updLines_resetAsserted _ _
@[simp] theorem State.applyFiring_inputPins (s : State) (a : FiringAction) (ls : LineSet) : (s.applyFiring a ls).inputPins = s.inputPins :=
  State.updLines_inputPins _ _
@[simp] theorem State.applyFiring_timebase (s : State) (a : FiringAction) (ls : LineSet) : (s.applyFiring a ls).timebase = s.timebase :=
  State.updLines_timebase _ _
@[simp] theorem State.applyFiring_schedule (s : State) (a : FiringAction) (ls : LineSet) : (s.applyFiring a ls).schedule = s.schedule :=
  State.updLines_schedule _ _
@[simp] theorem State.applyFiring_store (s : State) (a : FiringAction) (ls : LineSet) : (s.applyFiring a ls).store = s.store :=
  State.updLines_store _ _
@[simp] theorem State.applyFiring_trigger (s : State) (a : FiringAction) (ls : LineSet) : (s.applyFiring a ls).trigger = s.trigger :=
  State.updLines_trigger _ _
@[simp] theorem State.applyFiring_ports (s : State) (a : FiringAction) (ls : LineSet) : (s.applyFiring a ls).ports = s.ports :=
  State.updLines_ports _ _
@[simp] theorem State.applyFiring_ticksToSchedule (s : State) (a : FiringAction) (ls : LineSet) : (s.applyFiring a ls).ticksToSchedule = s.ticksToSchedule :=
  State.updLines_ticksToSchedule _ _
@[simp] theorem State.applyFiring_ticksToTrigger (s : State) (a : FiringAction) (ls : LineSet) : (s.applyFiring a ls).ticksToTrigger = s.ticksToTrigger :=
  State.updLines_ticksToTrigger _ _
@[simp] theorem State.applyFiring_releaseRequests (s : State) (a : FiringAction) (ls : LineSet) : (s.applyFiring a ls).releaseRequests = s.releaseRequests :=
  State.updLines_releaseRequests _ _
@[simp] theorem State.applyFiring_endOfTickReports (s : State) (a : FiringAction) (ls : LineSet) : (s.applyFiring a ls).endOfTickReports = s.endOfTickReports :=
  State.updLines_endOfTickReports _ _
@[simp] theorem State.applyFiring_scheduleToLines (s : State) (a : FiringAction) (ls : LineSet) : (s.applyFiring a ls).scheduleToLines = s.scheduleToLines :=
  State.updLines_scheduleToLines _ _
@[simp] theorem State.applyFiring_pending (s : State) (a : FiringAction) (ls : LineSet) : (s.applyFiring a ls).pending = s.pending :=
  State.updLines_pending _ _
@[simp] theorem State.applyFiring_port (s : State) (a : FiringAction) (ls : LineSet) (k : PortId) : (s.applyFiring a ls).port k = s.port k :=
  State.updLines_port _ _ _
@[simp] theorem State.applyFiring_slot (s : State) (a : FiringAction) (ls : LineSet) (k : SlotId) : (s.applyFiring a ls).slot k = s.slot k := by
  simp only [State.slot, State.applyFiring_schedule]
@[simp] theorem State.applyFiring_entry (s : State) (a : FiringAction) (ls : LineSet) (k : SlotId) : (s.applyFiring a ls).entry k = s.entry k := by
  simp only [State.entry, State.slot, State.applyFiring_schedule]

/-! ### setSlot -/

@[simp] theorem State.setSlot_resetAsserted (s : State) (i : SlotId) (sl : Slot) : (s.setSlot i sl).resetAsserted = s.resetAsserted := rfl
@[simp] theorem State.setSlot_inputPins (s : State) (i : SlotId) (sl : Slot) : (s.setSlot i sl).inputPins = s.inputPins := rfl
@[simp] theorem State.setSlot_timebase (s : State) (i : SlotId) (sl : Slot) : (s.setSlot i sl).timebase = s.timebase := rfl
@[simp] theorem State.setSlot_lines (s : State) (i : SlotId) (sl : Slot) : (s.setSlot i sl).lines = s.lines := rfl
@[simp] theorem State.setSlot_store (s : State) (i : SlotId) (sl : Slot) : (s.setSlot i sl).store = s.store := rfl
@[simp] theorem State.setSlot_trigger (s : State) (i : SlotId) (sl : Slot) : (s.setSlot i sl).trigger = s.trigger := rfl
@[simp] theorem State.setSlot_ports (s : State) (i : SlotId) (sl : Slot) : (s.setSlot i sl).ports = s.ports := rfl
@[simp] theorem State.setSlot_ticksToSchedule (s : State) (i : SlotId) (sl : Slot) : (s.setSlot i sl).ticksToSchedule = s.ticksToSchedule := rfl
@[simp] theorem State.setSlot_ticksToTrigger (s : State) (i : SlotId) (sl : Slot) : (s.setSlot i sl).ticksToTrigger = s.ticksToTrigger := rfl
@[simp] theorem State.setSlot_releaseRequests (s : State) (i : SlotId) (sl : Slot) : (s.setSlot i sl).releaseRequests = s.releaseRequests := rfl
@[simp] theorem State.setSlot_endOfTickReports (s : State) (i : SlotId) (sl : Slot) : (s.setSlot i sl).endOfTickReports = s.endOfTickReports := rfl
@[simp] theorem State.setSlot_scheduleToLines (s : State) (i : SlotId) (sl : Slot) : (s.setSlot i sl).scheduleToLines = s.scheduleToLines := rfl
@[simp] theorem State.setSlot_pending (s : State) (i : SlotId) (sl : Slot) : (s.setSlot i sl).pending = s.pending := rfl
@[simp] theorem State.setSlot_port (s : State) (i : SlotId) (sl : Slot) (k : PortId) : (s.setSlot i sl).port k = s.port k := rfl
@[simp] theorem State.setSlot_line (s : State) (i : SlotId) (sl : Slot) (k : Fin 16) : (s.setSlot i sl).line k = s.line k := by
  simp only [State.line, State.setSlot_lines]
@[simp] theorem State.setSlot_now (s : State) (i : SlotId) (sl : Slot) : (s.setSlot i sl).schedule.now = s.schedule.now := rfl
@[simp] theorem State.setSlot_endOfTickTaken (s : State) (i : SlotId) (sl : Slot) :
    (s.setSlot i sl).schedule.endOfTickTaken = s.schedule.endOfTickTaken := rfl

/-! ### endEntry -/

@[simp] theorem State.endEntry_resetAsserted (s : State) (i : SlotId) : (s.endEntry i).resetAsserted = s.resetAsserted := rfl
@[simp] theorem State.endEntry_inputPins (s : State) (i : SlotId) : (s.endEntry i).inputPins = s.inputPins := rfl
@[simp] theorem State.endEntry_timebase (s : State) (i : SlotId) : (s.endEntry i).timebase = s.timebase := rfl
@[simp] theorem State.endEntry_lines (s : State) (i : SlotId) : (s.endEntry i).lines = s.lines := rfl
@[simp] theorem State.endEntry_store (s : State) (i : SlotId) : (s.endEntry i).store = s.store := rfl
@[simp] theorem State.endEntry_trigger (s : State) (i : SlotId) : (s.endEntry i).trigger = s.trigger := rfl
@[simp] theorem State.endEntry_ports (s : State) (i : SlotId) : (s.endEntry i).ports = s.ports := rfl
@[simp] theorem State.endEntry_ticksToSchedule (s : State) (i : SlotId) : (s.endEntry i).ticksToSchedule = s.ticksToSchedule := rfl
@[simp] theorem State.endEntry_ticksToTrigger (s : State) (i : SlotId) : (s.endEntry i).ticksToTrigger = s.ticksToTrigger := rfl
@[simp] theorem State.endEntry_releaseRequests (s : State) (i : SlotId) : (s.endEntry i).releaseRequests = s.releaseRequests := rfl
@[simp] theorem State.endEntry_endOfTickReports (s : State) (i : SlotId) : (s.endEntry i).endOfTickReports = s.endOfTickReports := rfl
@[simp] theorem State.endEntry_scheduleToLines (s : State) (i : SlotId) : (s.endEntry i).scheduleToLines = s.scheduleToLines := rfl
@[simp] theorem State.endEntry_pending (s : State) (i : SlotId) : (s.endEntry i).pending = s.pending := rfl
@[simp] theorem State.endEntry_port (s : State) (i : SlotId) (k : PortId) : (s.endEntry i).port k = s.port k := rfl
@[simp] theorem State.endEntry_line (s : State) (i : SlotId) (k : Fin 16) : (s.endEntry i).line k = s.line k := by
  simp only [State.line, State.endEntry_lines]
@[simp] theorem State.endEntry_now (s : State) (i : SlotId) : (s.endEntry i).schedule.now = s.schedule.now := rfl
@[simp] theorem State.endEntry_endOfTickTaken (s : State) (i : SlotId) :
    (s.endEntry i).schedule.endOfTickTaken = s.schedule.endOfTickTaken := rfl

/-! ### Reads of a port after an update -/

@[simp] theorem State.updPort_port_same (s : State) (p : PortId) (f : Port → Port) :
    (s.updPort p f).port p = f (s.port p) := by
  simp [State.updPort, State.port]

theorem State.updPort_port_other (s : State) {p q : PortId} (f : Port → Port) (h : q ≠ p) :
    (s.updPort p f).port q = s.port q := by
  have h' : ¬ p.val = q.val := fun e => h (Fin.ext e.symm)
  simp [State.updPort, State.port, h']

theorem State.updPort_port (s : State) (p q : PortId) (f : Port → Port) :
    (s.updPort p f).port q = if q = p then f (s.port q) else s.port q := by
  by_cases h : q = p
  · subst h; simp
  · simp [h, State.updPort_port_other]

@[simp] theorem State.updLink_port_same (s : State) (p : PortId) (f : Link → Link) :
    (s.updLink p f).port p = { s.port p with link := f (s.port p).link } := by simp [State.updLink]

@[simp] theorem State.updSession_port_same (s : State) (p : PortId) (f : Session → Session) :
    (s.updSession p f).port p = { s.port p with session := f (s.port p).session } := by simp [State.updSession]

@[simp] theorem State.updQueue_port_same (s : State) (p : PortId) (f : NoticeQueue → NoticeQueue) :
    (s.updQueue p f).port p = { s.port p with queue := f (s.port p).queue } := by simp [State.updQueue]

@[simp] theorem State.updWires_port_same (s : State) (p : PortId) (f : Wires → Wires) :
    (s.updWires p f).port p = { s.port p with wires := f (s.port p).wires } := by simp [State.updWires]

@[simp] theorem State.reply_port_same (s : State) (p : PortId) (st : Status) (r : Result) :
    (s.reply p st r).port p =
      { s.port p with wires := { (s.port p).wires with
          fromSession := (s.port p).wires.fromSession ++ [.reply (.completion ⟨st, r⟩)] } } := by
  simp [State.reply]

@[simp] theorem State.finish_port_same (s : State) (p : PortId) (st : Status) (r : Result) :
    (s.finish p st r).port p =
      { s.port p with wires := { (s.port p).wires with
          request := none, toLink := (s.port p).wires.toLink ++ [.completion ⟨st, r⟩] } } := by
  simp [State.finish]

theorem State.updLink_port_other (s : State) {p q : PortId} (f : Link → Link) (h : q ≠ p) :
    (s.updLink p f).port q = s.port q := State.updPort_port_other s _ h

theorem State.updSession_port_other (s : State) {p q : PortId} (f : Session → Session) (h : q ≠ p) :
    (s.updSession p f).port q = s.port q := State.updPort_port_other s _ h

theorem State.updQueue_port_other (s : State) {p q : PortId} (f : NoticeQueue → NoticeQueue) (h : q ≠ p) :
    (s.updQueue p f).port q = s.port q := State.updPort_port_other s _ h

theorem State.updWires_port_other (s : State) {p q : PortId} (f : Wires → Wires) (h : q ≠ p) :
    (s.updWires p f).port q = s.port q := State.updPort_port_other s _ h

theorem State.reply_port_other (s : State) {p q : PortId} (st : Status) (r : Result) (h : q ≠ p) :
    (s.reply p st r).port q = s.port q := State.updPort_port_other s _ h

theorem State.finish_port_other (s : State) {p q : PortId} (st : Status) (r : Result) (h : q ≠ p) :
    (s.finish p st r).port q = s.port q := State.updPort_port_other s _ h

/-! ### Reads of a line and of a slot after an update -/

@[simp] theorem State.updLines_line (s : State) (f : Fin 16 → Line → Line) (i : Fin 16) :
    (s.updLines f).line i = f i (s.line i) := by
  simp [State.updLines, State.line]

@[simp] theorem State.returnLines_line (s : State) (f : Fin 16 → Line → Bool) (i : Fin 16) :
    (s.returnLines f).line i = if f i (s.line i) then (s.line i).safeReturn else s.line i := by
  simp [State.returnLines]

@[simp] theorem State.applyFiring_line (s : State) (a : FiringAction) (ls : LineSet) (i : Fin 16) :
    (s.applyFiring a ls).line i =
      if hasLine ls i then { s.line i with level := a.level i (s.line i).level } else s.line i := by
  simp [State.applyFiring]

theorem State.setSlot_slot (s : State) (i j : SlotId) (sl : Slot) :
    (s.setSlot i sl).slot j = if j = i then sl else s.slot j := by
  by_cases h : j = i
  · subst h; simp [State.setSlot, State.slot]
  · have h' : ¬ i.val = j.val := fun e => h (Fin.ext e.symm)
    simp [State.setSlot, State.slot, h, h']

@[simp] theorem State.setSlot_slot_same (s : State) (i : SlotId) (sl : Slot) : (s.setSlot i sl).slot i = sl := by
  simp [State.setSlot_slot]

@[simp] theorem State.endEntry_slot_same (s : State) (i : SlotId) : (s.endEntry i).slot i = (s.slot i).ended := by
  simp [State.endEntry]

theorem State.endEntry_slot_other (s : State) {i j : SlotId} (h : j ≠ i) : (s.endEntry i).slot j = s.slot j := by
  simp [State.endEntry, State.setSlot_slot, h]

/-! ### Sets of lines -/

@[simp] theorem hasLine_lineSetOf (f : Fin 16 → Bool) (i : Fin 16) : hasLine (lineSetOf f) i = f i := by
  unfold hasLine lineSetOf
  rw [BitVec.getLsbD_ofBoolListLE]
  fin_cases i <;> rfl

theorem sharesLine_iff (a b : LineSet) : sharesLine a b = true ↔ ∃ i, hasLine a i = true ∧ hasLine b i = true := by
  constructor
  · intro h
    by_contra hn
    refine bne_iff_ne.mp h (BitVec.eq_of_getLsbD_eq fun k hk => ?_)
    have : ¬ (a.getLsbD k = true ∧ b.getLsbD k = true) := fun hab => hn ⟨⟨k, hk⟩, hab⟩
    rw [BitVec.getLsbD_and]
    cases ha : a.getLsbD k <;> cases hb : b.getLsbD k <;> simp_all
  · rintro ⟨i, ha, hb⟩
    refine bne_iff_ne.mpr fun h => ?_
    have h' := congrArg (fun v => v.getLsbD i.val) h
    rw [BitVec.getLsbD_and] at h'
    unfold hasLine at ha hb
    rw [ha, hb] at h'
    simp at h'

theorem sharesLine_comm (a b : LineSet) : sharesLine a b = sharesLine b a := by
  simp [sharesLine, BitVec.and_comm]

end Sys2Proof.Machine
end

