-- ==== Sys2Proof/Laws/Ops.lean ====
section
/-! SUPPORT. What each shared operation can do, said once: the questions, the searches, the writing of words, the changes of
one port, the firing, the endings, and the turns of slots and subscriptions. -/

namespace Sys2Proof.Machine

/-! ### Requests at a block -/

theorem Wires.inOrder_iff (w : Wires) (b : Block) :
    w.inOrder b = true ↔ ∀ x ∈ w.withdrawals, x.block = b → x.live = true := by
  simp only [Wires.inOrder, List.all_eq_true, Bool.or_eq_true, decide_eq_true_eq]
  exact forall₂_congr fun x _ => ⟨fun h e => h.resolve_right fun n => n e, fun h => or_iff_not_imp_right.2 fun n => h (not_not.1 n)⟩

theorem State.request_iff (s : State) (p : PortId) (c : Command) : (s.port p).request = some c ↔ Requested s p c := by
  simp only [Port.request, Option.filter_eq_some_iff, Wires.inOrder_iff]

theorem State.sessionRequest_iff (s : State) (p : PortId) (w : Waiting) :
    (s.port p).sessionRequest = some w ↔ SessionRequested s p w := by
  rw [Port.sessionRequest, SessionRequested, ← Wires.inOrder_iff]
  split <;> simp_all

/-- A withdrawal that was sent to the block before the request holds the request back. -/
theorem Port.request_held {pt : Port} {c : Command} {x : Withdrawal} (hr : pt.wires.request = some c)
    (hx : x ∈ pt.wires.withdrawals) (hb : x.block = c.block) (hl : x.live = false) : pt.request = none := by
  have h : pt.wires.inOrder c.block = false := by
    rw [Bool.eq_false_iff, Ne, Wires.inOrder_iff]
    intro h
    simp [h x hx hb] at hl
  simp [Port.request, hr, Option.filter, h]

theorem Port.sessionRequest_held {pt : Port} {x : Withdrawal} (hx : x ∈ pt.wires.withdrawals) (hb : x.block = .session)
    (hl : x.live = false) : pt.sessionRequest = none := by
  have h : pt.wires.inOrder .session = false := by
    rw [Bool.eq_false_iff, Ne, Wires.inOrder_iff]
    intro h
    simp [h x hx hb] at hl
  simp [Port.sessionRequest, h]

/-! ### One port -/

theorem State.updPort_eq_withPort (s : State) (p : PortId) (f : Port → Port) :
    s.updPort p f = s.withPort p (f (s.port p)) := rfl

@[simp] theorem State.withPort_withPort (s : State) (p : PortId) (a b : Port) :
    (s.withPort p a).withPort p b = s.withPort p b := by simp [State.withPort]

@[simp] theorem State.withPort_port_same (s : State) (p : PortId) (a : Port) : (s.withPort p a).port p = a := by
  simp [State.withPort, State.port]

theorem State.withPort_port_other (s : State) {p q : PortId} (a : Port) (h : q ≠ p) :
    (s.withPort p a).port q = s.port q := by
  have h' : ¬ p.val = q.val := fun e => h (Fin.ext e.symm)
  simp [State.withPort, State.port, h']

@[simp] theorem State.withPort_self (s : State) (p : PortId) : s.withPort p (s.port p) = s := by
  simp [State.withPort, State.port]

@[simp] theorem State.withPort_timebase (s : State) (p : PortId) (a : Port) : (s.withPort p a).timebase = s.timebase := rfl
@[simp] theorem State.withPort_lines (s : State) (p : PortId) (a : Port) : (s.withPort p a).lines = s.lines := rfl
@[simp] theorem State.withPort_schedule (s : State) (p : PortId) (a : Port) : (s.withPort p a).schedule = s.schedule := rfl
@[simp] theorem State.withPort_store (s : State) (p : PortId) (a : Port) : (s.withPort p a).store = s.store := rfl
@[simp] theorem State.withPort_trigger (s : State) (p : PortId) (a : Port) : (s.withPort p a).trigger = s.trigger := rfl
@[simp] theorem State.withPort_scheduleToLines (s : State) (p : PortId) (a : Port) :
    (s.withPort p a).scheduleToLines = s.scheduleToLines := rfl
@[simp] theorem State.withPort_resetAsserted (s : State) (p : PortId) (a : Port) :
    (s.withPort p a).resetAsserted = s.resetAsserted := rfl
@[simp] theorem State.withPort_pending (s : State) (p : PortId) (a : Port) : (s.withPort p a).pending = s.pending := rfl

@[simp] theorem State.withPort_line (s : State) (p : PortId) (a : Port) (k : Fin 16) :
    (s.withPort p a).line k = s.line k := by simp only [State.line, State.withPort_lines]

@[simp] theorem State.withPort_slot (s : State) (p : PortId) (a : Port) (k : SlotId) :
    (s.withPort p a).slot k = s.slot k := by simp only [State.slot, State.withPort_schedule]

@[simp] theorem State.withPort_entry (s : State) (p : PortId) (a : Port) (k : SlotId) :
    (s.withPort p a).entry k = s.entry k := by simp only [State.entry, State.withPort_slot]

/-! ### Lines -/

/-- A change of line records is the state with new records, each the change of the old one. -/
theorem State.updLines_spec (s : State) (f : Fin 16 → Line → Line) : ∃ records : Vector Line 16,
    s.updLines f = { s with lines := records } ∧ ∀ k : Fin 16, records[k] = f k (s.line k) :=
  ⟨Vector.ofFn fun i => f i s.lines[i], rfl, fun k => by simp [State.line]⟩

theorem State.ownsAll_iff (s : State) (p : PortId) (ls : LineSet) :
    s.ownsAll p ls = true ↔ ∀ k, hasLine ls k = true → (s.line k).owner = some p := by
  simp only [State.ownsAll, List.all_eq_true, List.mem_finRange, forall_const, Bool.or_eq_true, Bool.not_eq_true',
    decide_eq_true_eq]
  exact forall_congr' fun k => by cases hasLine ls k <;> simp

theorem State.ownsForEntry_iff (s : State) (p : PortId) (ls : LineSet) : s.ownsForEntry p ls = true ↔
    ∀ k, hasLine ls k = true → (s.line k).owner = some p ∧ (s.line k).held = false := by
  simp only [State.ownsForEntry, List.all_eq_true, List.mem_finRange, forall_const, Bool.or_eq_true, Bool.not_eq_true',
    Bool.and_eq_true, decide_eq_true_eq]
  exact forall_congr' fun k => by cases hasLine ls k <;> simp

theorem State.hasLine_conflicting (s : State) (p : PortId) (ls : LineSet) (k : Fin 16) :
    hasLine (s.conflicting p ls) k = true ↔ hasLine ls k = true ∧ ∃ q, (s.line k).owner = some q ∧ q ≠ p := by
  simp only [State.conflicting, hasLine_lineSetOf, Bool.and_eq_true]
  refine and_congr Iff.rfl ?_
  cases (s.line k).owner <;> simp

theorem State.hasLine_ownedLines (s : State) (p : PortId) (k : Fin 16) :
    hasLine (s.ownedLines p) k = true ↔ (s.line k).owner = some p := by
  simp [State.ownedLines, hasLine_lineSetOf]

/-! ### Numbers in range and searches -/

theorem below_of_eq {n : Nat} {b : Byte} {k : Fin n} (h : b.toNat = k.val) : below n b = some k := by
  unfold below
  rw [dif_pos (by omega)]
  simp [h]

theorem below_of_le {n : Nat} {b : Byte} (h : n ≤ b.toNat) : below n b = none := by
  unfold below
  rw [dif_neg (by omega)]

/-- The search for the lowest index finds one that satisfies the test and has none below it. -/
theorem find_lowest {n : Nat} (f : Fin n → Bool) (k : Fin n) (hk : f k = true) (hl : ∀ j < k, f j = false) :
    (List.finRange n).find? f = some k := by
  rw [List.find?_eq_some_iff_getElem]
  refine ⟨hk, k.val, by simp, by simp, fun j hj => ?_⟩
  simpa using hl ⟨j, by omega⟩ hj

/-! ### Entries -/

theorem ScheduleUnit.dueHeld_iff (s : State) (self : Option SlotId) (ls : LineSet) (t : Tick) :
    s.schedule.dueHeld self ls t = true ↔ ∃ j, self ≠ some j ∧ HoldsDue s j ls t := by
  unfold ScheduleUnit.dueHeld
  simp only [List.any_eq_true, List.mem_finRange, true_and, Bool.and_eq_true, decide_eq_true_eq]
  refine exists_congr fun j => and_congr Iff.rfl ?_
  show (s.entry j).any _ = true ↔ _
  unfold HoldsDue
  cases s.entry j <;> simp [Entry.holds, sharesLine_iff, Meets]

theorem State.segmentReferenced_iff (s : State) (k : Fin 8) :
    s.segmentReferenced k = true ↔ ∃ i e pos, s.entry i = some e ∧ e.action = .pattern k pos := by
  unfold State.segmentReferenced
  simp only [List.any_eq_true, List.mem_finRange, true_and]
  constructor
  · rintro ⟨i, h⟩
    cases e : s.entry i with
    | none => simp [e] at h
    | some en =>
      simp only [e, Option.any_some, Entry.names] at h
      refine ⟨i, en, ?_⟩
      split at h <;> simp_all
  · rintro ⟨i, e, pos, h1, h2⟩
    exact ⟨i, by simp [h1, Entry.names, h2]⟩

/-- A firing action changes line records and nothing else (R33). -/
theorem State.applyFiring_frame (s : State) (a : FiringAction) (ls : LineSet) : ∃ lines,
    s.applyFiring a ls = { s with lines := lines } :=
  ⟨_, (State.updLines_spec s fun i l => if hasLine ls i then { l with level := a.level i l.level } else l).choose_spec.1⟩

/-- A firing changes line records, slots and the posts under way, and nothing else. -/
theorem State.fire_frame (s : State) (i : SlotId) (e : Entry) (late : Bool) : ∃ lines slots ports,
    s.fire i e late = { s with lines := lines, schedule := { s.schedule with slots := slots }, ports := ports } := by
  obtain ⟨lines, h⟩ := State.applyFiring_frame s (e.action.firing s.store) e.lines
  unfold State.fire
  rw [h]
  dsimp only
  split
  · exact ⟨_, _, _, rfl⟩
  · split <;> exact ⟨_, _, _, rfl⟩

/-- A cancellation request changes slots and the posts under way, and nothing else. -/
theorem State.cancelEntries_frame (s : State) (p : PortId) (f : Entry → Bool) (cause : Option CancelCause) :
    ∃ ports, s.cancelEntries p f cause =
      { s with schedule := { s.schedule with slots := s.schedule.slots.map (cancelSlot f) }, ports := ports } := by
  unfold State.cancelEntries
  dsimp only
  split <;> exact ⟨_, rfl⟩

/-- The turn of a slot in a release request changes slots and the posts under way, and nothing else. -/
theorem State.releaseSlot_frame (r : ReleaseRequest) (s : State) (i : SlotId) : ∃ slots ports,
    State.releaseSlot r s i = { s with schedule := { s.schedule with slots := slots }, ports := ports } := by
  unfold State.releaseSlot State.place
  dsimp only
  split
  · exact ⟨_, _, rfl⟩
  · split
    · exact ⟨_, _, rfl⟩
    · split <;> exact ⟨_, _, rfl⟩

/-- What a step of a fold keeps, the fold keeps. -/
theorem foldl_keeps {α β γ : Type} (f : β → α → β) (g : β → γ) (h : ∀ b a, g (f b a) = g b) (l : List α) (b : β) :
    g (l.foldl f b) = g b := by
  induction l generalizing b with
  | nil => rfl
  | cons a l ih => rw [List.foldl_cons, ih, h]

/-! ### The work of a tick -/

theorem State.fallenDue_iff (s : State) (i : SlotId) (e : Entry) :
    s.fallenDue i = some e ↔ s.entry i = some e ∧ e.state = .timed s.schedule.now := by
  unfold State.fallenDue
  cases h : s.entry i with
  | none => simp
  | some e' => by_cases hd : e'.state = .timed s.schedule.now <;> simp [hd] <;> rintro rfl <;> simp_all

theorem State.repliesTaken_iff (s : State) : s.repliesTaken = true ↔ s.scheduleToLines = [] := by
  simp [State.repliesTaken]

theorem State.tickWorkDone_iff (s : State) : s.tickWorkDone = true ↔ WorkDone s := by
  unfold State.tickWorkDone
  simp only [Bool.and_eq_true, List.all_eq_true, List.mem_finRange, forall_const, decide_eq_true_eq, Option.isNone_iff_eq_none]
  constructor
  · rintro ⟨⟨h1, h2⟩, h3⟩
    refine ⟨fun i e he hd => ?_, h2, h3⟩
    simpa [h1 i] using (State.fallenDue_iff s i e).2 ⟨he, hd⟩
  · rintro ⟨h1, h2, h3⟩
    refine ⟨⟨fun i => ?_, h2⟩, h3⟩
    cases h : s.fallenDue i with
    | none => rfl
    | some e => exact absurd ((State.fallenDue_iff s i e).1 h).2 (h1 i e ((State.fallenDue_iff s i e).1 h).1)

theorem State.tickSettled_iff (s : State) : s.tickSettled = true ↔ TickSettled s := by
  unfold State.tickSettled
  simp only [Bool.and_eq_true, List.isEmpty_iff, Vector.all_eq_true, State.tickWorkDone_iff]
  constructor
  · rintro ⟨⟨⟨h1, h2⟩, h3⟩, h4⟩
    exact ⟨h1, h2, fun p => h3 p.val p.isLt, h4⟩
  · rintro ⟨h1, h2, h3, h4⟩
    exact ⟨⟨⟨h1, h2⟩, fun i hi => h3 ⟨i, hi⟩⟩, h4⟩

/-! ### Messages to the port link controller -/

/-- A completion of a block other than the session controller is taken first (R150). -/
theorem Wires.offers_completion {w : Wires} {c : Completion} {rest : List ToLink} (h : w.toLink = .completion c :: rest) :
    (w.offers.find? fun x => x.1.isCompletion) = some (.completion c, { w with toLink := rest }) := by
  simp [Wires.offers, h, ToLink.isCompletion]

/-- Otherwise the completion that stands first among the messages of the session controller is (R160). -/
theorem Wires.offers_session {w : Wires} {c : Completion} {rest : List FromSession} (hb : ∀ c more, w.toLink ≠ .completion c :: more)
    (h : w.fromSession = .reply (.completion c) :: rest) :
    (w.offers.find? fun x => x.1.isCompletion) = some (.completion c, { w with fromSession := rest }) := by
  cases e : w.toLink with
  | nil => simp [Wires.offers, h, e, ToLink.isCompletion]
  | cons m more =>
    cases m with
    | completion c' => exact absurd e (hb c' more)
    | _ => simp [Wires.offers, h, e, ToLink.isCompletion]

/-- A reply of a block other than the session controller is taken first (R153). -/
theorem Wires.offers_reply {w : Wires} {m : ToLink} {rest : List ToLink} (h : w.toLink = m :: rest)
    (hm : m.isCompletion = false) :
    (w.offers.find? fun x => !x.1.isCompletion) = some (m, { w with toLink := rest }) := by
  simp [Wires.offers, h, hm]

/-- Otherwise the reply that stands first among the messages of the session controller is (R160). -/
theorem Wires.offers_sessionReply {w : Wires} {m : ToLink} {rest : List FromSession}
    (hb : w.toLink = [] ∨ ∃ c more, w.toLink = .completion c :: more) (h : w.fromSession = .reply m :: rest)
    (hm : m.isCompletion = false) :
    (w.offers.find? fun x => !x.1.isCompletion) = some (m, { w with fromSession := rest }) := by
  rcases hb with e | ⟨c, more, e⟩
  · simp [Wires.offers, h, e, hm]
  · have hc : (ToLink.completion c).isCompletion = true := rfl
    simp [Wires.offers, h, e, hm, hc]

/-! ### The pattern store -/

theorem PatternStore.fits_iff (st : PatternStore) (n b : Nat) : st.fits n b = true ↔ b + n ≤ 256 ∧
    ∀ (j : Fin 8) (g : Segment), st.segments[j] = some g → b + n ≤ g.base ∨ g.base + g.length ≤ b := by
  unfold PatternStore.fits
  simp only [Bool.and_eq_true, decide_eq_true_eq, Vector.all_eq_true]
  refine and_congr Iff.rfl ⟨fun h j g e => ?_, fun h i hi => ?_⟩
  · have := h j.val j.isLt
    simp at e
    simpa [e] using this
  · cases e : st.segments[i] with
    | none => simp
    | some g => simpa using h ⟨i, hi⟩ g e

/-- The words written stand one after the other from the start on; every other word stays (R98). -/
theorem writeWords_get (ws : List LevelSet) (v : Vector LevelSet 256) (start : Nat) (w : Fin 256) :
    (writeWords v start ws)[w] =
      if h : start ≤ w.val ∧ w.val < start + ws.length then ws[w.val - start]'(by omega) else v[w] := by
  induction ws generalizing v start with
  | nil => simp [writeWords]
  | cons a ws ih =>
    simp only [writeWords]
    rw [ih]
    by_cases h1 : start + 1 ≤ w.val ∧ w.val < start + 1 + ws.length
    · rw [dif_pos h1, dif_pos (by simp; omega)]
      have : w.val - start = (w.val - (start + 1)) + 1 := by omega
      simp [this]
    · rw [dif_neg h1]
      by_cases h2 : w.val = start
      · rw [dif_pos (by simp; omega)]
        subst h2
        simp
      · rw [dif_neg (by simp; omega)]
        simp [Vector.getElem_setIfInBounds]
        intro e
        exact absurd e.symm h2

/-! ### The trigger unit -/

/-- The turn of a subscription changes the places and the posts under way, and nothing else. -/
theorem State.notifyPlace_frame (k : InputId) (d : Direction) (t : Tick) (s : State) (n : Fin 8) : ∃ places ports,
    State.notifyPlace k d t s n = { s with trigger := { s.trigger with places := places }, ports := ports } := by
  unfold State.notifyPlace
  split
  · exact ⟨_, _, rfl⟩
  · split <;> exact ⟨_, _, rfl⟩

end Sys2Proof.Machine
end

