-- ==== Sys2Proof/WellFormed.lean ====
section
/-! DEFINITION. The checks on the operands of a step that its types do not already make. -/

namespace Sys2Proof

/-- A step whose operands describe something that can happen at the part: the stray bits at the close of a command window
are those that do not complete a byte (R141), and no withdrawal request is sent to a notice queue, which withdraws a
FETCH through its departure report (R153, R154). -/
def Instr.wf : Instr → Bool
  | .commandWindowClose _ bits stray => decide (bits.length % 8 = 0 ∧ stray.length < 8)
  | .withdrawalRequest _ block => decide (block ≠ Block.noticeQueue)
  | _ => true

end Sys2Proof
end

