-- ==== Sys2Proof/Tests/Slice0.lean ====
section
/-! SUPPORT. The model's own tests: ill-formed steps that the check refuses, worked examples of the spec, small runs of single
steps, and for each statement concrete states that meet the hypotheses of its clauses. -/

namespace Sys2Proof.Tests

open Sys2Proof Sys2Proof.Machine

-- The tests are checked one after another: every one of them reserves a thread of its own otherwise.
set_option Elab.async false

/-! ### Small states -/

/-- The state after a step, or the state before it. -/
def after (c : Instr) (s : State) : State :=
  match exec c s with
  | .next t => t
  | _ => s

/-- A step answers a next state that satisfies a test. -/
def answers (o : Host.Outcome State Fault Refusal) (f : State → Bool) : Bool :=
  match o with
  | .next t => f t
  | _ => false

/-- Port p waits with a request at a block. -/
def asks (s : State) (p : PortId) (c : Command) : State := s.updWires p fun w => { w with request := some c }

/-- The part after RESET with P0 to P3 attached. -/
def attached : State :=
  { State.reset with ports := State.reset.ports.map fun pt =>
      { pt with session := { pt.session with state := .attached, attachedSinceReset := true },
                queue := { pt.queue with attached := true } } }

/-- L0 is P1's (SAFE, safe level high), L1 is P1's and held for release, L2 is P3's. -/
def owned : State :=
  { attached with lines := ((attached.lines.set 0 ⟨some 1, false, true, some .safe, false⟩).set 1
      ⟨some 1, true, false, some .freeze, true⟩).set 2 ⟨some 3, false, false, some .hold, false⟩ }

/-- The arguments of a SCHEDULE: RELATIVE, offset 10, L0, SET, count 1, notify LAST. -/
def relative : ScheduleArgs :=
  { mode := 1, label := 0x11, lines := 1, action := 0, segment := 0, position := 0, count := 1, interval := 0, notify := 1,
    area := 0x0000000A0000 }

def entryAt (due : Tick) (n : Remaining) (iv : Option (BitVec 24)) : Entry :=
  { port := 1, label := 7, lines := 1, action := .toggle, state := .timed due, remaining := n, interval := iv, notify := .each,
    latePolicy := none }

def waitingEntry (mark : Bool) : Entry :=
  { port := 1, label := 7, lines := 1, action := .set, state := .waiting 0 .rise 40 mark, remaining := .counted 1,
    interval := none, notify := .last, latePolicy := none }

/-- A segment S1 of P1 with base 4 and length 3, and one S2 of P2. -/
def segmented : State :=
  { owned with store := { owned.store with segments := (owned.store.segments.set 1 (some ⟨1, 4, 3⟩)).set 2 (some ⟨2, 7, 1⟩) } }

def patternEntry : Entry :=
  { port := 1, label := 7, lines := 1, action := .pattern 1 2, state := .timed 5, remaining := .counted 1, interval := none,
    notify := .none, latePolicy := none }

def sub (p : PortId) (n : Remaining) : Subscription := { port := p, input := 0, selection := .rise, remaining := n }

def full : State :=
  { attached with
    trigger := { attached.trigger with places := Vector.replicate 8 (some (sub 1 .unbounded)) }
    store := { attached.store with segments := Vector.ofFn fun k => some ⟨1, k.val, 1⟩ }
    schedule := { attached.schedule with slots := Vector.replicate 64 { generation := 0, entry := some (entryAt 9 .unbounded (some 5)) } } }

def notice : Notice := .captured 3 0 .rise 0 false

def withLink (s : State) (p : PortId) (f : Link → Link) : State := s.updLink p f

def request (block : Option Block) : Request := { sequence := 0x21, code := 0x10, args := [], block := block }

/-- The bits of bytes as they travel, each byte most significant bit first. -/
def bitsOf (bytes : List Byte) : List Bool := bytes.flatMap fun b => (List.range 8).map fun i => b.getLsbD (7 - i)

/-- A STATUS of port p: its four questions, one after the other. -/
def afterStatus (p : PortId) (s : State) : State :=
  after (.status ⟨p, .timebaseValue⟩) (after (.status ⟨p, .entryCount⟩) (after (.status ⟨p, .ownedLines⟩)
    (after (.status ⟨p, .noticeCount⟩) s)))

/-! ### Ill-formed steps -/

theorem test_wf_refuses_eight_stray_bits : (Instr.commandWindowClose 0 [] (List.replicate 8 true)).wf = false := by decide
theorem test_wf_accepts_seven_stray_bits : (Instr.commandWindowClose 0 [] (List.replicate 7 true)).wf = true := by decide
theorem test_wf_refuses_part_of_a_byte : (Instr.commandWindowClose 0 (List.replicate 12 true) []).wf = false := by decide
theorem test_wf_refuses_withdrawal_at_queue : (Instr.withdrawalRequest 0 .noticeQueue).wf = false := by decide
theorem test_wf_accepts_withdrawal_at_timebase : (Instr.withdrawalRequest 0 .timebase).wf = true := by decide

/-! ### Worked examples of the spec -/

theorem test_crc_worked : crc8 [0x02, 0x5A, 0x0F] = 0x75 := by decide +kernel
theorem test_crc_corrupted : crc8 [0x02, 0x5B, 0x0F] = 0x60 := by decide +kernel
theorem test_judge_accepted : judgeFrame [0x02, 0x5A, 0x0F, 0x75] 0 = .accepted 0x5A 0x0F [] := by decide +kernel
theorem test_judge_corrupted : judgeFrame [0x02, 0x5B, 0x0F, 0x75] 0 = .badFrame 0x5B := by decide +kernel
theorem test_judge_stray : judgeFrame [0x02, 0x5A, 0x0F, 0x75] 4 = .badFrame 0x5A := by decide +kernel
theorem test_judge_opener_alone : judgeFrame [] 0 = .ignored ∧ judgeFrame [] 3 = .badFrame 0 := by decide +kernel

theorem test_distances : inFuture 0xFFFFFFF0 0x10 = true ∧ inFuture 0xFFFFFFF0 0x7FFFFFEF = true ∧
    inFuture 0xFFFFFFF0 0x7FFFFFF0 = false ∧ inFuture 0xFFFFFFF0 0xFFFFFFE0 = false ∧ inFuture 0xFFFFFFF0 0xFFFFFFF0 = false := by
  decide +kernel

theorem test_claim_overlap :
    let s1 := after (.claim 1) (asks attached 1 (.claim 0x000F 0x0008 2))
    let s2 := after (.claim 3) (asks s1 3 (.claim 0x0038 0 1))
    s1.line 3 = ⟨some 1, false, true, some .safe, false⟩ ∧ (s1.port 1).wires.toLink = [.completion ⟨.ok, .claim 0x000F⟩] ∧
      (s2.port 3).wires.toLink = [.completion ⟨.held, .held 0x0008⟩] ∧ (s2.line 4).owner = none := by decide +kernel

theorem test_alloc_first_fit :
    let st := fun s (p : PortId) n => after (.alloc p) (asks s p (.alloc n))
    let s4 := st (st (st (st attached 0 64) 1 100) 0 32) 2 60
    let s6 := after (.free 2) (asks (after (.free 1) (asks s4 1 (.free 1))) 2 (.free 3))
    let s7 := st s6 3 120
    let s10 := st (st s7 3 80) 3 60
    s4.store.segments[3] = some ⟨2, 196, 60⟩ ∧ (s7.port 3).wires.toLink = [.completion ⟨.noSpace, .empty⟩] ∧
      s6.store.unallocated = 160 ∧ s6.store.longestHole = 100 ∧
      s10.store.segments[1] = some ⟨3, 64, 80⟩ ∧ s10.store.segments[3] = some ⟨3, 196, 60⟩ := by decide +kernel

theorem test_collision_on_reschedule :
    let s0 : State := { owned with schedule := { owned.schedule with now := 1020 } }
    let b : Entry := { entryAt 1060 (.counted 1) none with action := .clear, notify := .last }
    let s := (s0.setSlot 5 ⟨0, some b⟩).setSlot 9 ⟨1, some { entryAt 1020 (.counted 3) (some 40) with notify := .last }⟩
    let t := after (.expiry 9) s
    t.slot 9 = ⟨2, none⟩ ∧ (t.line 0).level = true ∧
      (t.port 1).wires.postsOfSchedule = [.cancelled ⟨9, 1⟩ 7 1020 (.counted 2) .collided] := by decide +kernel

theorem test_toggle_fires :
    let s := ({ owned with schedule := { owned.schedule with now := 2050 } }).setSlot 7
      ⟨2, some (entryAt 2050 (.counted 5) (some 100))⟩
    let t := after (.expiry 7) s
    (t.line 0).level = true ∧ t.entry 7 = some (entryAt 2150 (.counted 4) (some 100)) ∧
      (t.port 1).wires.postsOfSchedule = [.fired ⟨7, 2⟩ 7 2050 (.counted 4) false] := by decide +kernel

theorem test_marker_recovers :
    let m : Marker := { tick := 9500, dropped := 6, inFlight := true, later := none }
    let q : NoticeQueue := { items := [⟨notice, true⟩], marker := some m, attached := true }
    let d := q.post (.captured 10100 0 .rise 0 false)
    d.acknowledge = { items := [], marker := some ⟨10100, 1, false, none⟩, attached := true } ∧
      d.giveBack.marker = some ⟨9500, 7, false, none⟩ := by decide +kernel

theorem test_lapse_meets_frame :
    let s := (attached.updSession 3 fun se => { se with heartbeat := 5, lapseCount := some 1 }).updWires 3 fun w =>
      { w with ticks := [905], toSession := [.acceptance 0x22] }
    let tickFirst := after (.acceptanceReport 3) (after (.sessionControllerTick 3) s)
    let reportFirst := after (.sessionControllerTick 3) (after (.acceptanceReport 3) s)
    (tickFirst.port 3).wires.fromSession = [.departure false, .answer false] ∧
      (tickFirst.port 3).session.state = .recovering .lapse ∧
      (reportFirst.port 3).session.lapseCount = some 4 ∧ (reportFirst.port 3).wires.fromSession = [.answer true] := by decide +kernel

theorem test_release_completes :
    let s : State := { (owned.updPort 1 fun pt => { pt with releasing := some 2 }) with scheduleToLines := [.release 1 1] }
    let t := after (.releaseCompletion 1) s
    t.line 1 = ⟨none, false, false, none, false⟩ ∧ t.line 0 = owned.line 0 ∧
      (t.port 1).wires.toLink = [.completion ⟨.ok, .release 1⟩] := by decide +kernel

theorem test_first_status_attaches :
    let s := State.reset.updSession 2 fun se => { se with waiting := some ⟨.status, false⟩ }
    let t := afterStatus 2 s
    (t.port 2).session.state = .attached ∧ (t.port 2).wires.toQueue = [.attachment] ∧ t.attention 2 = false ∧
      s.attention 2 = true := by decide +kernel

/-- R168: a firing between the schedule unit's answer and the queue's shows in one count and not in the other. -/
theorem test_status_spans_events :
    let s := ((owned.setSlot 7 ⟨2, some { entryAt 0 (.counted 1) none with notify := .last }⟩).updSession 1 fun se =>
      { se with waiting := some ⟨.status, false⟩ })
    let t := after (.post 1 .scheduleUnit) (after (.expiry 7) (after (.status ⟨1, .entryCount⟩) s))
    let u := after (.status ⟨1, .timebaseValue⟩) (after (.status ⟨1, .ownedLines⟩) (after (.status ⟨1, .noticeCount⟩) t))
    (u.port 1).wires.fromSession = [.reply (.completion ⟨.ok, .status ⟨.attached, 1, none, 0, 3, 1, 0⟩⟩)] ∧
      u.pendingCount 1 = 0 := by
  decide +kernel

/-- R16, R67: an expiry comes after the reply to a cancellation that was sent before it, and moves its line in its event. -/
theorem test_expiry_waits_for_a_reply :
    let s0 : State := { (owned.updPort 1 fun pt => { pt with releasing := some 2 }) with scheduleToLines := [.release 1 0] }
    let s := s0.setSlot 7 ⟨2, some (entryAt 0 (.counted 5) (some 100))⟩
    let t := after (.expiry 7) s
    let u := after (.releaseCompletion 1) t
    let v := after (.expiry 7) u
    t = s ∧ u.line 0 = s.line 0 ∧ u.line 1 = ⟨none, false, false, none, false⟩ ∧ u.scheduleToLines = [] ∧
      (v.line 0).level = true ∧ (v.port 1).wires.postsOfSchedule = [.fired ⟨7, 2⟩ 7 0 (.counted 4) false] := by decide +kernel

/-- R16, R30: a SCHEDULE whose ownership question comes after the reply to an orphan request finds the SAFE line given up. -/
theorem test_schedule_waits_for_an_orphan_reply :
    let s : State := { (asks owned 1 (.schedule relative)).updPort 1 (fun pt => { pt with orphanSafe := some 1 }) with
      scheduleToLines := [.orphan 1] }
    let u := after (.schedule 1) (after (.orphanCompletion 1) s)
    after (.schedule 1) s = s ∧ (u.line 0).owner = none ∧ (u.port 1).wires.toLink = [.completion ⟨.notOwner, .empty⟩] := by
  decide +kernel

/-- R160, R177: a PARTING that ends after a lapse is completed behind the departure instruction, and the completion is
dropped. -/
theorem test_parting_ends_after_a_lapse :
    let s := ((withLink attached 1 fun l => { l with path := .pending (request (some .session)) false }).updWires 1
      fun w => { w with ticks := [1], partingReply := some 0 }).updSession 1 fun se =>
        { se with heartbeat := 5, lapseCount := some 1, parting := some ⟨.flush, 0, 0, 0, 0⟩ }
    let t := after (.flushReply 1) (after (.sessionControllerTick 1) s)
    let u := after (.completion 1) (after (.departureInstruction 1) t)
    (t.port 1).wires.fromSession = [.departure false, .reply (.completion ⟨.ok, .parting 0 0 0 0⟩)] ∧
      after (.completion 1) t = t ∧ (u.port 1).link.path = .idle ∧ (u.port 1).wires.fromSession = [] := by decide +kernel

theorem test_prescale_governs_the_next_interval :
    let s := after (.prescale 2) (asks { attached with timebase := ⟨100, 4, 4, 1⟩ } 2 (.prescale 2))
    let t := after (.tick 0) s
    s.timebase = ⟨100, 2, 4, 1⟩ ∧ t.timebase = ⟨101, 2, 2, 0⟩ ∧
      (s.port 2).wires.toLink = [.completion ⟨.ok, .prescale 4 100⟩] := by decide +kernel

theorem test_edges_of_one_tick :
    let s : State := { attached with
      ticksToTrigger := [(5000, 1)]
      trigger := { inputs := (attached.trigger.inputs.set 0 ⟨some false, none, 7⟩).set 2 ⟨some true, none, 3⟩
                   places := attached.trigger.places.set 0 (some (sub 3 (.counted 2))) } }
    let t := after .triggerUnitTick s
    t.trigger.inputs[0] = ⟨some true, some (5000, .rise), 8⟩ ∧ t.trigger.places[0] = some (sub 3 (.counted 1)) ∧
      t.releaseRequests = [⟨0, .rise, 5000⟩, ⟨2, .fall, 5000⟩] ∧ t.endOfTickReports = [5000] ∧
      (t.port 3).wires.postsOfTrigger = [.captured 5000 0 .rise 0 false] := by decide +kernel

theorem test_abandonment_flags :
    let s := withLink attached 2 fun l => { l with
      sel := true, window := .command, path := .ready [1, 2, 3] true }
    let t := after (.commandWindowClose 2 (bitsOf [0x02, 0x5A, 0x0F, 0x75]) []) s
    (t.port 2).link.priorLost = true ∧ (t.port 2).wires.linkToQueue = [.giveBack] ∧
      (t.port 2).wires.toSession = [.acceptance 0x0F] := by decide +kernel

/-! ### States that meet the hypotheses of the statements, clause by clause -/

theorem test_witness_StepTakesTheFront : State.reset.pending = [] := by decide

theorem test_witness_ResetSetsEveryBlock :
    State.reset.resetAsserted = false ∧ (after .resetAssertion attached).resetAsserted = true := by decide +kernel

/-- No work of a tick is left in a state without entries, whose report has been taken; a tick under way to any taker, or
work of the tick, holds the next tick back. -/
theorem test_witness_TickSettled : attached.tickSettled = true ∧
    ({ attached with ticksToSchedule := [1] } : State).tickSettled = false ∧
    ({ attached with ticksToTrigger := [(1, 0)] } : State).tickSettled = false ∧
    (attached.updWires 3 fun w => { w with ticks := [1] }).tickSettled = false ∧
    ({ attached with schedule := { attached.schedule with endOfTickTaken := false } } : State).tickSettled = false ∧
    ({ attached with releaseRequests := [⟨0, .rise, 0⟩] } : State).tickSettled = false ∧
    (attached.setSlot 4 ⟨0, some (entryAt 0 (.counted 1) none)⟩).tickSettled = false := by decide +kernel

theorem test_witness_RefclkPeriodsMakeTheTick :
    let s : State := { attached with timebase := ⟨7, 4, 4, 1⟩ }
    s.resetAsserted = false ∧ s.timebase.intervalCount + 1 < s.timebase.intervalLength ∧ s.tickSettled = true ∧
      attached.timebase.intervalLength ≤ attached.timebase.intervalCount + 1 ∧
      s.timebase.intervalCount + (2 + 1) = s.timebase.intervalLength := by decide +kernel

theorem test_witness_TickAdvancesAndIsDelivered :
    State.reset.resetAsserted = false ∧ State.reset.tickSettled = true ∧
      ((attached.updWires 3 fun w => { w with ticks := [1] }).port 3).wires.ticks ≠ [] := by decide +kernel

theorem test_witness_DistanceDecidesTheFuture : (0 : Tick) ≠ 0x80000000 ∧ inFuture 0 0x7FFFFFFF = true ∧
    inFuture 0 0x80000000 = false ∧ inFuture 0x80000000 0 = false ∧ inFuture 1 0 = false := by decide +kernel

theorem test_witness_PrescaleNeedsAnEmptySchedule :
    let v0 : BitVec 24 := 0
    let v1 : BitVec 24 := 65536
    let v2 : BitVec 24 := 65537
    Requested (asks attached 1 (.prescale v1)) 1 (.prescale v1) ∧ v0.toNat = 0 ∧ 65536 < v2.toNat ∧
      1 ≤ v1.toNat ∧ v1.toNat ≤ 65536 ∧ (∀ i, (asks attached 1 (.prescale v1)).entry i = none) ∧
      (asks full 1 (.prescale v1)).entry 0 ≠ none := by decide +kernel

theorem test_witness_TablesAndTimeAreRead :
    Requested (asks attached 1 .time) 1 .time ∧ Requested (asks attached 1 .lines) 1 .lines ∧
      Requested (asks attached 1 .segments) 1 .segments ∧
      Requested (asks attached 1 .inputs) 1 .inputs ∧
      Requested (asks segmented 1 (.alloc 248)) 1 (.alloc 248) ∧ segmented.store.longestHole = 248 ∧
      segmented.store.unallocated = 252 ∧ segmented.store.segments[0] = none ∧ segmented.store.firstFit 249 = none := by
  decide +kernel

theorem test_witness_ClaimIsAllOrNothing :
    let s := asks owned 1 (.claim 0x000D 0 2)
    let u := asks owned 1 (.claim 0x8009 0 0)
    let policies : Byte × Byte := (2, 3)
    Requested s 1 (.claim 0x000D 0 2) ∧ policies.1.toNat ≤ 2 ∧ 2 < policies.2.toNat ∧
      hasLine 0x000D 2 = true ∧ (s.line 2).owner = some 3 ∧
      Requested u 1 (.claim 0x8009 0 0) ∧
      ∀ k, hasLine 0x8009 k = true → (u.line k).owner = none ∨ (u.line k).owner = some 1 := by decide +kernel

theorem test_witness_ReleaseTakesTwoEvents :
    let s := asks owned 1 (.release 0x0003)
    let u : State := { (owned.updPort 1 fun pt => { pt with releasing := some 3 }) with scheduleToLines := [.release 1 0] }
    Requested s 1 (.release 0x0003) ∧ (∀ k, hasLine 0x0003 k = true → (s.line k).owner = some 1) ∧
      hasLine 0x0007 2 = true ∧ (s.line 2).owner ≠ some 1 ∧ (u.port 1).releasing = some 3 ∧ u.scheduleToLines = [.release 1 0] := by
  decide +kernel

theorem test_witness_DriveSetsLevels :
    let s := asks owned 1 (.drive 0x0003 0x8000)
    Requested s 1 (.drive 0x0003 0x8000) ∧ (∀ k, hasLine 0x0003 k = true → (s.line k).owner = some 1) ∧
      hasLine 0x8001 15 = true ∧ (s.line 15).owner ≠ some 1 := by decide +kernel

theorem test_witness_FiringActionReachesTheSet : hasLine 0x8000 15 = true ∧ hasLine 0x8000 14 = false ∧
    ({ asks owned 1 (.schedule relative) with scheduleToLines := [.orphan 1] } : State).scheduleToLines ≠ [] ∧
    Requested (asks owned 1 (.schedule relative)) 1 (.schedule relative) ∧ relative.plan.isSome = true := by
  decide +kernel

theorem test_witness_OrphanProcessingAtTheLineTable :
    let s := owned.updWires 1 fun w => { w with toLines := [.orphanStart] }
    let u : State := { (owned.updPort 1 fun pt => { pt with orphanSafe := some 1 }) with scheduleToLines := [.orphan 1] }
    (s.port 1).wires.toLines = [.orphanStart] ∧ u.scheduleToLines = [.orphan 1] ∧ (u.port 1).orphanSafe = some 1 := by decide +kernel

theorem test_witness_PartingStepsGiveEverythingBack :
    let s := fun (st : PartingStep) => (segmented.updSession 1 fun se => { se with parting := some ⟨st, 0, 0, 0, 0⟩ }).updWires 1
      fun w => { w with partingRequest := true, toLines := [.lineStep] }
    (∀ st ∈ [PartingStep.lines, .segments, .subscriptions], ((s st).port 1).wires.partingRequest = true ∧
      ((s st).port 1).session.parting = some ⟨st, 0, 0, 0, 0⟩) ∧ (s .lines).store.segments[1] = some ⟨1, 4, 3⟩ ∧
      ((s .lines).port 1).wires.toLines = [.lineStep] := by
  decide +kernel

theorem test_witness_AllocTakesTheFirstFit :
    let s := asks segmented 1 (.alloc 4)
    let lengths : BitVec 16 × BitVec 16 × BitVec 16 := (0, 257, 256)
    let u := asks full 1 (.alloc 1)
    Requested s 1 (.alloc 4) ∧ lengths.1.toNat = 0 ∧ 256 < lengths.2.1.toNat ∧ lengths.2.2.toNat ≤ 256 ∧
      (∀ k : Fin 8, u.store.segments[k] ≠ none) ∧ s.store.segments[0] = none ∧ s.store.firstFit 4 = some 0 ∧
      s.store.firstFit 5 = some 8 ∧ s.store.firstFit 256 = none := by decide +kernel

theorem test_witness_FreeFreesAnUnreferencedSegment :
    let s := asks segmented 1 (.free 1)
    let r := s.setSlot 3 ⟨0, some patternEntry⟩
    Requested s 1 (.free 1) ∧ s.store.segments[1] = some ⟨1, 4, 3⟩ ∧ s.segmentReferenced 1 = false ∧
      r.segmentReferenced 1 = true ∧ r.store.segments[1] = some ⟨1, 4, 3⟩ ∧ s.store.segments[0] = none ∧
      s.store.segments[2] = some ⟨2, 7, 1⟩ ∧ 7 < (8 : Byte).toNat := by decide +kernel

theorem test_witness_LoadWritesWithinTheSegment :
    let s := asks segmented 1 (.load 1 1 [5, 6])
    Requested s 1 (.load 1 1 [5, 6]) ∧ s.store.segments[1] = some ⟨1, 4, 3⟩ ∧ (1 : Byte).toNat + 2 ≤ 3 ∧
      3 < (2 : Byte).toNat + 2 ∧ s.store.segments[0] = none ∧ 256 < (255 : Byte).toNat + 2 ∧ (254 : Byte).toNat + 2 ≤ 256 := by
  decide +kernel

theorem test_witness_PatternFiringsReadAndAdvance :
    segmented.store.segments[1] = some ⟨1, 4, 3⟩ ∧ (⟨6, by decide⟩ : Fin 256).val = 4 + 2 ∧ 2 + 1 = 3 ∧ 1 + 1 ≠ 3 := by
  decide +kernel

theorem test_witness_ScheduleChecksBeforeItsTime :
    let s := asks owned 1 (.schedule relative)
    Requested s 1 (.schedule relative) ∧ relative.plan.isSome = true ∧
      ({ relative with lines := 3 } : ScheduleArgs).plan.isSome = true ∧ (s.line 1).held = true ∧ (s.line 2).owner ≠ some 1 ∧ s.scheduleToLines = [] ∧
      (∀ i, full.entry i ≠ none) ∧ ({ relative with mode := 3 } : ScheduleArgs).plan = none ∧
      ({ relative with area := 0 } : ScheduleArgs).plan = none ∧ ({ relative with area := 0x800000000000 } : ScheduleArgs).plan = none ∧
      ({ relative with count := 0 } : ScheduleArgs).plan = none ∧ ({ relative with mode := 2, area := 0 } : ScheduleArgs).plan = none := by
  decide +kernel

/-- The plan of `relative` with a mode. -/
def plan (mode : Mode) : Plan :=
  { mode := mode, label := 0x11, lines := 1, action := .set, remaining := .counted 1, interval := none, notify := .last }

theorem test_witness_plan_relative : relative.plan = some (plan (.relative 10)) := by decide +kernel

theorem test_witness_plan_absolute : ({ relative with mode := 0, area := 0x000000090100 } : ScheduleArgs).plan =
    some (plan (.absolute 9 .fireNow)) ∧ inFuture 0 9 = true ∧ inFuture 9 9 = false := by decide +kernel

theorem test_witness_plan_pattern :
    ({ relative with action := 3, segment := 7, position := 255 } : ScheduleArgs).plan =
      some { plan (.relative 10) with action := .pattern 7 255 } ∧
    ({ relative with segment := 8, position := 255 } : ScheduleArgs).plan = some (plan (.relative 10)) ∧
    ({ relative with action := 3, segment := 8 } : ScheduleArgs).plan = none := by decide +kernel

theorem test_witness_plan_trigger : ({ relative with mode := 2, area := 0x010000006400 } : ScheduleArgs).plan =
    some (plan (.trigger 1 .rise 100)) := by decide +kernel

theorem test_witness_plan_repeats :
    ({ relative with mode := 0, area := 0x000000090100, count := 2, interval := 8 } : ScheduleArgs).plan =
      some { plan (.absolute 9 .fireNow) with remaining := .counted 2, interval := some 8 } ∧
    ({ relative with mode := 0, area := 0x000000090000, count := 0, interval := 8 } : ScheduleArgs).plan =
      some { plan (.absolute 9 .refuse) with remaining := .unbounded, interval := some 8 } := by decide +kernel

theorem test_witness_Admitted (a : ScheduleArgs) (pl : Plan) (h : a.plan = some pl) (hl : pl.lines = 1)
    (ha : pl.action = .set) : Admitted (asks owned 1 (.schedule a)) 1 a pl 0 where
  request := ⟨by simp [asks, State.updWires, State.updPort, State.port], by
    have e : ((asks owned 1 (.schedule a)).port 1).wires.withdrawals = (owned.port 1).wires.withdrawals := by
      simp [asks, State.updWires, State.updPort, State.port]
    have none : (owned.port 1).wires.withdrawals = [] := by decide +kernel
    simp [e, none]⟩
  replies := rfl
  plan := h
  position := by intro seg pos g e; simp [ha] at e
  owned := by
    have e : ∀ k, (asks owned 1 (.schedule a)).line k = owned.line k := fun k => by
      simp [asks, State.updWires, State.updPort, State.line]
    have o : ∀ k, hasLine 1 k = true → (owned.line k).owner = some 1 ∧ (owned.line k).held = false := by decide +kernel
    intro k hk; rw [e]; rw [hl] at hk; exact o k hk
  segment := by intro seg pos e; simp [ha] at e
  free := by
    have e : (asks owned 1 (.schedule a)).entry 0 = owned.entry 0 := by
      simp [asks, State.updWires, State.updPort, State.entry, State.slot]
    rw [e]; decide +kernel
  lowest := by intro j hj; exact absurd hj (by simp)

/-- ABSOLUTE with due tick 0, which is not in the future of now = 0: REFUSE; FIRE_NOW once; FIRE_NOW repeating, with its
next due tick free and held. -/
theorem test_witness_LateSchedulesFollowTheirPolicy :
    let refused : ScheduleArgs := { relative with mode := 0, area := 0 }
    let once : ScheduleArgs := { relative with mode := 0, area := 0x100 }
    let twice : ScheduleArgs := { once with count := 2, interval := 8 }
    let s := asks owned 1 (.schedule twice)
    inFuture s.schedule.now 0 = false ∧ refused.plan = some (plan (.absolute 0 .refuse)) ∧
      once.plan = some (plan (.absolute 0 .fireNow)) ∧
      twice.plan = some { plan (.absolute 0 .fireNow) with remaining := .counted 2, interval := some 8 } ∧
      s.schedule.dueHeld none 1 (s.schedule.now + (8 : BitVec 24).setWidth 32) = false ∧
      (s.setSlot 3 ⟨0, some (entryAt 8 (.counted 1) none)⟩).schedule.dueHeld none 1
        (s.schedule.now + (8 : BitVec 24).setWidth 32) = true := by decide +kernel

theorem test_witness_ScheduleCreatesEntries :
    let timed := ((asks owned 1 (.schedule relative)).setSlot 3 ⟨0, some (entryAt 10 (.counted 1) none)⟩)
    let waits := ((asks owned 1 (.schedule relative)).setSlot 3 ⟨0, some (waitingEntry false)⟩)
    timed.schedule.dueHeld none 1 10 = true ∧ timed.schedule.dueHeld none 1 11 = false ∧
      waits.schedule.waitingHeld 1 0 40 = true ∧ waits.schedule.waitingHeld 1 0 41 = false := by decide +kernel

theorem test_witness_HandlesNameEntries :
    let s := (asks owned 1 (.cancel 3 9)).setSlot 3 ⟨9, some (entryAt 10 (.counted 1) none)⟩
    let u := (asks owned 2 (.query 3 9)).setSlot 3 ⟨9, some (entryAt 10 (.counted 1) none)⟩
    Requested s 1 (.cancel 3 9) ∧ (s.slot 3).generation = 9 ∧ (s.entry 3).isSome = true ∧
      Requested u 2 (.query 3 9) ∧ (entryAt 10 (.counted 1) none).port ≠ 2 ∧ s.entry 63 = none ∧
      63 < (64 : Byte).toNat := by decide +kernel

theorem test_witness_ListReportsInOrder :
    let s := ((asks attached 1 (.list 0)).setSlot 5 ⟨0, some (entryAt 4 (.counted 1) none)⟩).setSlot 2 ⟨0, some (waitingEntry false)⟩
    Requested s 1 (.list 0) ∧ s.listOf 1 = [5, 2] ∧ s.dueOf 5 = some 4 ∧ s.dueOf 2 = none ∧ s.dueOf 0 = none ∧ (63 : Byte).toNat ≤ 63 ∧ 63 < (64 : Byte).toNat := by
  decide +kernel

theorem test_witness_ExpiryFiresTheEntry :
    let s := owned.setSlot 4 ⟨0, some (entryAt 0 (.counted 1) none)⟩
    let u := owned.setSlot 4 ⟨0, some (entryAt 0 .unbounded (some 6))⟩
    let v := u.setSlot 5 ⟨0, some (entryAt 6 (.counted 2) (some 1))⟩
    (s.fallenDue 4).isSome = true ∧ (u.fallenDue 4).isSome = true ∧ u.schedule.dueHeld (some 4) 1 6 = false ∧
      v.schedule.dueHeld (some 4) 1 6 = true ∧ v.fallenDue 5 = none ∧ s.scheduleToLines = [] ∧ u.scheduleToLines = [] ∧
      v.scheduleToLines = [] := by decide +kernel

theorem test_witness_TickFollowsTheWorkBeforeIt :
    let s : State := { owned with ticksToSchedule := [1] }
    let u : State := { s with schedule := { s.schedule with endOfTickTaken := false }, endOfTickReports := [0] }
    let v : State := { s with releaseRequests := [⟨0, .rise, 0⟩] }
    s.tickWorkDone = true ∧ u.tickWorkDone = false ∧ v.tickWorkDone = false ∧
      (owned.setSlot 4 ⟨0, some (entryAt 0 (.counted 1) none)⟩).tickWorkDone = false ∧ u.schedule.now = 0 := by decide +kernel

theorem test_witness_ReleaseRequestsSetDueTicks :
    let s : State := { owned with releaseRequests := [⟨1, .rise, 0⟩, ⟨0, .rise, 0⟩] }
    let u := (s.setSlot 4 ⟨0, some (waitingEntry false)⟩).setSlot 5 ⟨0, some (entryAt 40 (.counted 1) none)⟩
    s.releaseRequests = [⟨1, .rise, 0⟩] ++ ⟨0, .rise, 0⟩ :: [] ∧ u.schedule.dueHeld none 1 40 = true ∧
      (s.setSlot 4 ⟨0, some (waitingEntry false)⟩).schedule.dueHeld none 1 40 = false ∧
      (waitingEntry true).state = .waiting 0 .rise 40 true ∧ u.entry 6 = none ∧
      (u.entry 5).map Entry.state = some (.timed 40) := by decide +kernel

theorem test_witness_CancellationRequestsEndTheirEntries :
    let s := owned.updWires 1 fun w => { w with releaseRequest := some 1, orphanRequest := some 1, partingRequest := true }
    let u := s.updSession 1 fun se => { se with parting := some ⟨.entries, 0, 0, 0, 0⟩ }
    (u.port 1).wires.releaseRequest = some 1 ∧ (u.port 1).wires.orphanRequest = some 1 ∧
      (u.port 1).wires.partingRequest = true ∧ (u.port 1).session.parting = some ⟨.entries, 0, 0, 0, 0⟩ := by decide +kernel

theorem test_witness_TriggerUnitSamplesTheInputs :
    let s : State := { attached with ticksToTrigger := [(1, 15)], trigger := { attached.trigger with
      inputs := (attached.trigger.inputs.set 0 ⟨some false, none, 7⟩).set 2 ⟨some true, none, 3⟩ } }
    s.ticksToTrigger = [(1, 15)] ∧ s.trigger.inputs[0].sampled = some (!(15 : BitVec 4).getLsbD 0) ∧
      s.trigger.inputs[1].sampled = none ∧ s.trigger.inputs[2].sampled = some ((15 : BitVec 4).getLsbD 2) := by decide +kernel

theorem test_witness_SubscriptionsReportAndCountDown :
    let s : State := { attached with trigger := { attached.trigger with places :=
      ((attached.trigger.places.set 0 (some (sub 1 .unbounded))).set 1 (some (sub 1 (.counted 1)))).set 7 (some (sub 2 (.counted 255))) } }
    s.trigger.places[0] = some (sub 1 .unbounded) ∧ s.trigger.places[1] = some (sub 1 (.counted 1)) ∧
      s.trigger.places[7] = some (sub 2 (.counted (253 + 2))) ∧ (sub 1 .unbounded).matched 0 .rise = true ∧
      (sub 1 .unbounded).matched 0 .fall = false := by decide +kernel

theorem test_witness_SubscribeAndUnsubscribe :
    let s := asks attached 1 (.subscribe 3 2 255)
    let u := asks full 1 (.unsubscribe 7)
    Requested s 1 (.subscribe 3 2 255) ∧ s.trigger.places[0] = none ∧
      (∀ n : Fin 8, full.trigger.places[n] ≠ none) ∧ Requested u 1 (.unsubscribe 7) ∧
      u.trigger.places[7] = some (sub 1 .unbounded) ∧ (sub 1 .unbounded).port ≠ 2 ∧ 7 < (8 : Byte).toNat := by decide +kernel

theorem test_witness_PostKeepsOrDropsTheNotice :
    let s := attached.updWires 1 fun w => { w with postsOfSchedule := [notice], postsOfTrigger := [notice] }
    let u := s.updQueue 1 fun q => { q with items := List.replicate 16 ⟨notice, false⟩ }
    let m : Marker := ⟨1, 65535, true, some (2, 65535)⟩
    (s.port 1).wires.postsOfSchedule = [notice] ∧ (s.port 1).wires.postsOfTrigger = [notice] ∧
      (s.port 1).queue.marker = none ∧ (s.port 1).queue.items.length < 16 ∧ 16 ≤ (u.port 1).queue.items.length ∧
      m.inFlight = true ∧ m.drop 5 = m ∧ m.fold = ⟨1, 65535, false, none⟩ := by decide +kernel

theorem test_witness_FetchDeliversFromTheHead :
    let s := asks (attached.updQueue 1 fun q => { q with items := List.replicate 3 ⟨notice, false⟩ }) 1 (.fetch 3)
    let u := asks (attached.updQueue 1 fun q => { q with marker := some ⟨1, 1, false, none⟩ }) 1 (.fetch 7)
    let v := asks State.reset 1 (.fetch 1)
    Requested s 1 (.fetch 3) ∧ (s.port 1).wires.linkToQueue = [] ∧ (s.port 1).queue.attached = true ∧
      3 ≤ (s.port 1).queue.items.length ∧ (u.port 1).queue.items.length < 7 ∧ (u.port 1).queue.marker.isSome = true ∧
      (v.port 1).queue.attached = false ∧ 7 < (8 : Byte).toNat ∧
      ((s.updWires 1 fun w => { w with linkToQueue := [.giveBack] }).port 1).wires.linkToQueue ≠ [] := by decide +kernel

theorem test_witness_AcknowledgementRemovesAndReturnKeeps :
    let s := fun x => attached.updWires 1 fun w => { w with linkToQueue := [x] }
    ((s .acknowledge).port 1).wires.linkToQueue = [.acknowledge] ∧ ((s .giveBack).port 1).wires.linkToQueue = [.giveBack] := by
  decide +kernel

theorem test_witness_QueueTakesTheReports :
    let s := fun x => attached.updWires 1 fun w => { w with toQueue := [x] }
    ∀ x ∈ [ToQueue.attachment, .departure, .flush], ((s x).port 1).wires.toQueue = [x] := by decide +kernel

theorem test_witness_AttentionShowsItsTwoCauses :
    State.reset.attention 0 = true ∧ attached.attention 0 = false ∧
      (attached.updQueue 0 fun q => { q with items := [⟨notice, false⟩] }).attention 0 = true ∧
      (attached.updQueue 0 fun q => { q with items := [⟨notice, true⟩] }).attention 0 = false := by decide +kernel

theorem test_witness_LinkPinsOpenAndCloseTheLink :
    let down := after (.linkpFall ⟨1, 0⟩) attached
    let reading := withLink attached 1 fun l => { l with sel := true, window := .response [0x84, 1], path := .sending [1] true }
    let s := fun (edges : Nat) => after (.linkpFall ⟨1, edges⟩) reading
    (attached.port 1).link.sel = false ∧ (attached.port 1).link.linkp = true ∧ attached.resetAsserted = false ∧
      (down.port 1).link.linkp = false ∧ (after .resetAssertion attached).resetAsserted = true ∧
      ((after .resetAssertion down).port 1).link.linkp = false ∧ ((after .resetAssertion down).port 1).link.path = .idle ∧
      ((s 24).port 1).link.path = .idle ∧ ((s 24).port 1).wires.linkToQueue = [.acknowledge] ∧
      ((s 23).port 1).link.path = .ready [1] true ∧ ((s 23).port 1).link.window = .closed := by decide +kernel

theorem test_pins : attached.selPin 1 = true ∧ attached.resetPin = true ∧ attached.attnPin 1 = true ∧
    State.reset.attnPin 1 = false ∧ attached.linkpPin 1 = true ∧ owned.linePin 1 = true ∧ attached.inputPin 3 = false := by
  decide +kernel

theorem test_witness_OpenerFixesTheWindow :
    let s := fun (path : Path) => withLink attached 1 fun l => { l with sel := true, window := .opening, path := path }
    let bits : Vector Bool 8 := #v[true, false, false, true, false, false, true, true]
    let u := after (.opener 1 bits) (s (.ready [0x40] true))
    (∀ path ∈ [Path.idle, .pending (request none) false, .ready [1] true],
      ((s path).port 1).link.window = .opening ∧ ((s path).port 1).link.path = path) ∧
      (∀ i : Fin 8, bits[i] = (0x93 : Byte).getLsbD (7 - i.val)) ∧
      (u.port 1).link.window = .response [0x84, 0x40] ∧
      (List.range 25).map (u.sdoPin 1) =
        List.replicate 8 false ++ bitsOf [0x84, 0x40] ++ [false] := by decide +kernel

theorem test_witness_FramesAreJudgedAtTheClose :
    (2 : Byte).toNat = ([] : List Byte).length + 2 ∧ (96 : Byte).toNat ≤ 96 ∧ 96 < (97 : Byte).toNat ∧ (1 : Byte).toNat < 2 := by
  decide +kernel

theorem test_witness_CommandWindowsCloseByThePath :
    let s := fun (path : Path) => withLink attached 1 fun l => { l with sel := true, window := .command, path := path }
    (∀ path ∈ [Path.idle, .pending (request none) false, .pending (request none) true, .ready [1] true],
      ((s path).port 1).link.sel = true ∧ ((s path).port 1).link.window = .command ∧ ((s path).port 1).link.path = path) ∧
      judgeBits [] = .ignored ∧ judgeBits (bitsOf [2, 0x5A, 0x0F, 0x75] ++ []) = .accepted 0x5A 0x0F [] ∧
      judgeBits (bitsOf [2, 0x5A, 0x0F, 0x75] ++ [true]) = .badFrame 0x5A ∧ judgeBits (bitsOf [2]) = .badFrame 0 := by
  decide +kernel

theorem test_witness_ResponseWindowsJudgeTheRead :
    let s := fun (window : Window) (path : Path) => withLink attached 1 fun l => { l with sel := true, window := window, path := path }
    ((s (.response [0x84, 1]) (.sending [1] true)).port 1).link.path = .sending [1] true ∧ 8 * ([1].length + 2) ≤ 24 ∧
      23 < 8 * ([1].length + 2) ∧ ((s (.response [0x81]) .idle).port 1).link.window = .response [0x81] ∧
      ((s .ignored .idle).port 1).link.window = .ignored := by decide +kernel

theorem test_witness_AnswersCheckTheRequest :
    let s := fun (r : Request) (d a : Bool) => (withLink attached 1 fun l => { l with path := .pending r d }).updWires 1 fun w =>
      { w with fromSession := [.answer a] }
    ((s (request none) false true).port 1).wires.fromSession = [.answer true] ∧
      ((s (request none) true false).port 1).link.path = .pending (request none) true ∧
      parseCommand 0x10 [] = .ok .time ∧ Command.block .time ≠ .session ∧ parseCommand 0x01 [] = .ok .status ∧
      Command.block .status = .session ∧ parseCommand 0x0F [] = .error .unknown ∧ parseCommand 0x10 [1] = .error .badArg ∧
      parseCommand 0x42 [3, 4] = .ok (.load 3 4 []) ∧ parseCommand 0x42 [3, 4, 5] = .error .badArg := by
  decide +kernel

theorem test_witness_CompletionsAreAssembledOrDropped :
    let s := fun (b : Block) (d : Bool) => (withLink attached 1 fun l => { l with path := .pending (request (some b)) d }).updWires 1
      fun w => { w with toLink := [.completion ⟨.ok, .empty⟩] }
    ((s .timebase false).port 1).link.path = .pending (request (some .timebase)) false ∧
      ((s .timebase true).port 1).wires.toLink = [.completion ⟨.ok, .empty⟩] ∧
      ((attached.updWires 1 fun w => { w with fromSession := [.reply (.completion ⟨.ok, .empty⟩)] }).port 1).wires.fromSession =
        [.reply (.completion ⟨.ok, .empty⟩)] ∧ (attached.port 1).wires.toLink = [] ∧
      ((attached.updWires 1 fun w => { w with fromSession := [.departure true] }).port 1).wires.fromSession =
        [.departure true] ∧
      ((s .noticeQueue true).port 1).link.path = .pending (request (some .noticeQueue)) true := by decide +kernel

/-- The FETCH of the worked example of chapter 10: P3, one FIRED notice of entry 3/0 ahead of two others. -/
theorem test_fetch_on_the_wire :
    let fired : Delivered := .notice (.fired ⟨3, 0⟩ 0x1234 700 (.counted 4) false)
    let c : Completion := ⟨.ok, .fetch [fired, .notice notice, .overrun 5 2] 1⟩
    ((responseFrame 0x40 (flagsByte false false) c).take 18 =
      [0x29, 0x40, 0x00, 0x00, 0x03, 0x01, 0x01, 0x00, 0x00, 0x02, 0xBC, 0x03, 0x00, 0x12, 0x34, 0x00, 0x04, 0x00]) ∧
      (responseFrame 0x40 0 c).length = 43 := by decide +kernel

theorem test_witness_WithdrawalsAreAnsweredAndSettle :
    let s := fun (live : Bool) => (asks attached 1 .time).updWires 1 fun w => { w with withdrawals := [⟨.timebase, live⟩] }
    let u := fun (live : Bool) => attached.updWires 1 fun w => { w with withdrawals := [⟨.session, live⟩] }
    let other := (asks attached 1 .lines).updWires 1 fun w => { w with withdrawals := [⟨.timebase, true⟩] }
    let v := fun (d : Bool) (x : ToLink) => (withLink attached 1 fun l =>
      { l with path := .pending (request (some .timebase)) d }).updWires 1 fun w => { w with toLink := [x] }
    let gone := (u true).updSession 1 fun se => { se with removed := true }
    (∀ live, ((s live).port 1).wires.withdrawals = [] ++ ⟨.timebase, live⟩ :: []) ∧
      ((s true).port 1).wires.request = some .time ∧ (other.port 1).wires.request = some .lines ∧
      Command.block .lines ≠ .timebase ∧ ((u true).port 1).wires.withdrawals = [] ++ ⟨.session, true⟩ :: [] ∧
      ((u true).port 1).session.waiting = none ∧ ((u true).port 1).session.removed = false ∧
      (gone.port 1).session.removed = true ∧ ((u true).port 1).session.asking = none ∧
      ((v true .withdrawn).port 1).wires.toLink = [.withdrawn] ∧
      ((v true (.taken false)).port 1).wires.toLink = [.taken false] ∧
      ((attached.updWires 1 fun w => { w with fromSession := [.reply .withdrawn] }).port 1).wires.fromSession =
        [.reply .withdrawn] ∧ (attached.port 1).wires.toLink = [] ∧
      ((v false .fetchWithdrawn).port 1).link.path = .pending (request (some .timebase)) false := by decide +kernel

/-- R152: a request waits behind a withdrawal that was sent to its block before it, and is taken when that has been taken. -/
theorem test_request_waits_for_a_withdrawal :
    let s := (asks attached 1 .time).updWires 1 fun w => { w with withdrawals := [⟨.timebase, false⟩] }
    let t := after (.withdrawalRequest 1 .timebase) s
    let u := (attached.updSession 1 fun se => { se with waiting := some ⟨.parting, false⟩ }).updWires 1 fun w =>
      { w with withdrawals := [⟨.session, false⟩] }
    (s.port 1).request = none ∧ after (.time 1) s = s ∧ ((after (.time 1) t).port 1).wires.request = none ∧
      ((after (.time 1) t).port 1).wires.toLink.length = 2 ∧ after (.parting 1) u = u ∧
      ((after (.parting 1) (after (.withdrawalRequest 1 .session) u)).port 1).session.waiting = none := by decide +kernel

/-- R164: a second departure instruction is settled with the reply under way, and one that comes after that reply at once. -/
theorem test_second_departure :
    let s := (withLink (asks attached 1 .time) 1 fun l => { l with path := .pending (request (some .timebase)) false }).updWires 1
      fun w => { w with fromSession := [.departure true, .departure true] }
    let t := after (.departureInstruction 1) s
    let both := after (.withdrawalReply 1) (after (.withdrawalRequest 1 .timebase) (after (.departureInstruction 1) t))
    let taken := t.updWires 1 fun w => { w with request := none }
    let later := after (.departureInstruction 1) (after (.withdrawalReply 1) (after (.withdrawalRequest 1 .timebase) taken))
    (t.port 1).link.replyDue = true ∧ (both.port 1).wires.toSession = [.settlement] ∧ (both.port 1).link.path = .idle ∧
      (later.port 1).wires.toSession = [.settlement, .settlement] ∧
      (later.port 1).link.path = .pending (request (some .timebase)) true := by decide +kernel

theorem test_witness_DepartureInstructionsClearThePath :
    let s := fun (path : Path) (window : Window) => (withLink attached 1 fun l => { l with path := path, window := window }).updWires 1
      fun w => { w with fromSession := [.departure true] }
    (∀ path ∈ [Path.idle, .ready [1] true, .sending [1] true, .pending (request none) false, .pending (request (some .timebase)) false,
        .pending (request (some .noticeQueue)) false, .pending (request (some .timebase)) true],
      ((s path (.response [1])).port 1).link.path = path ∧ ((s path (.response [1])).port 1).link.replyDue = false ∧
      ((s path (.response [1])).port 1).wires.fromSession = [.departure true]) ∧
      ((withLink (s (.pending (request (some .timebase)) true) .closed) 1 fun l => { l with replyDue := true }).port 1).link.replyDue =
        true := by decide +kernel

theorem test_witness_HeartbeatAndAcceptanceSetTheTimer :
    let s := (attached.updWires 1 fun w => { w with toSession := [.acceptance 0x10] }).updSession 1 fun se =>
      { se with heartbeat := 5, waiting := some ⟨.heartbeat 0xFFFFFF, false⟩ }
    (s.port 1).wires.toSession = [.acceptance 0x10] ∧ (s.port 1).session.state = .attached ∧ (s.port 1).session.heartbeat ≠ 0 ∧
      (attached.port 1).session.heartbeat = 0 ∧ (State.reset.port 1).session.state ≠ .attached ∧
      SessionRequested s 1 ⟨.heartbeat 0xFFFFFF, false⟩ ∧ 16777215 < (0x1000000 : BitVec 32).toNat ∧
      (0xFFFFFF : BitVec 32).toNat ≤ 16777215 := by decide +kernel

theorem test_witness_SessionTickLowersTheCount :
    let s := fun (o : Option Nat) => (attached.updWires 1 fun w => { w with ticks := [1] }).updSession 1 fun se =>
      { se with heartbeat := 5, lapseCount := o }
    ((s (some 2)).port 1).session.lapseCount = some (0 + 2) ∧ ((s (some 1)).port 1).wires.ticks = [1] ∧
      ((s none).port 1).session.lapseCount = none := by decide +kernel

theorem test_witness_SettlementAndOrphanReply :
    let s := fun (d : Departure) => (attached.updWires 1 fun w => { w with toSession := [.settlement], orphanReply := true }).updSession 1
      fun se => { se with departure := d, waiting := some ⟨.status, true⟩, state := .recovering .lapse }
    (∀ d ∈ [Departure.none, .awaiting true, .awaiting false], ((s d).port 1).session.departure = d) ∧
      ((s .none).port 1).wires.toSession = [.settlement] ∧ ((s .none).port 1).wires.orphanReply = true ∧
      ((s .none).port 1).session.asking = none ∧
      ((s .none).port 1).session.state ≠ .detached ∧ (attached.port 1).session.waiting ≠ some ⟨.status, true⟩ := by decide +kernel

theorem test_witness_LinkpMovesThePortState :
    let s := fun (x : LinkpReport) (st : PortState) (y : Bool) => (attached.updWires 1 fun w => { w with linkpReports := [x] }).updSession 1
      fun se => { se with state := st, attachedSinceReset := y }
    (∀ x ∈ [LinkpReport.rising, .falling], ∀ st ∈ [PortState.detached, .recovering .reset, .attached],
      ((s x st true).port 1).wires.linkpReports = [x] ∧ ((s x st true).port 1).session.state = st) ∧
      ((s .rising .detached false).port 1).session.attachedSinceReset = false := by decide +kernel

theorem test_witness_StatusAttachesOrIsHeld :
    let s := fun (st : PortState) (d : Departure) => attached.updSession 1 fun se =>
      { se with state := st, departure := d, waiting := some ⟨.status, false⟩ }
    let three := (s .attached .none).updSession 1 fun se =>
      { se with asking := some { notices := some (0, none), lines := some 0, entries := some 0, value := none } }
    ((s (.recovering .linkLoss) .none).port 1).session.settled = true ∧ ((s .attached .none).port 1).session.settled = true ∧
      ((s (.recovering .lapse) (.awaiting true)).port 1).session.settled = false ∧
      ((s .attached .none).port 1).wires.reached .noticeCount = true ∧ ((s .attached .none).port 1).session.asking = none ∧
      (∀ q ∈ [StatusQuestion.noticeCount, .ownedLines, .entryCount, .timebaseValue], ((three.answer 1 ((three.port 1).session.asking.getD Asked.start) .timebaseValue)).has q = true) ∧
      (three.port 1).session.asking ≠ none ∧
      ((three.updWires 1 fun w => { w with toQueue := [.departure] }).port 1).wires.reached .noticeCount = false := by
  decide +kernel

theorem test_witness_PartingRunsItsSteps :
    let s := fun (st : PartingStep) => (attached.updWires 1 fun w => { w with partingReply := some 4 }).updSession 1 fun se =>
      { se with parting := some ⟨st, 1, 2, 3, 4⟩ }
    let held := (s .flush).updSession 1 fun se => { se with waiting := some ⟨.status, true⟩, state := .recovering .lapse }
    let t := afterStatus 1 (after (.attachmentReport 1) (after (.flushReply 1) held))
    (∀ st ∈ [PartingStep.entries, .lines, .segments, .subscriptions, .flush],
      ((s st).port 1).session.parting = some ⟨st, 1, 2, 3, 4⟩ ∧ ((s st).port 1).wires.partingReply = some 4) ∧
      ((s .flush).port 1).session.waiting = none ∧ ((s .flush).port 1).session.asking = none ∧
      (held.port 1).session.departure = .none ∧ (held.port 1).session.orphan = false ∧ (t.port 1).session.state = .attached ∧
      ((attached.updSession 1 fun se => { se with waiting := some ⟨.parting, false⟩ }).port 1).session.waiting =
        some ⟨.parting, false⟩ := by decide +kernel

/-- A line's level, the words, the records and the timebase value do change by the steps named. -/
theorem test_witness_BlocksChangeOnlyByTheirEvents :
    let s := asks owned 1 (.drive 1 1)
    ((after (.drive 1) s).line 0).level ≠ (s.line 0).level ∧
      (after (.load 1) (asks segmented 1 (.load 1 1 [5]))).store.words[5] ≠ segmented.store.words[5] ∧
      (after (.free 2) (asks segmented 2 (.free 2))).store.segments ≠ segmented.store.segments ∧
      (after (.tick 0) s).timebase.value ≠ s.timebase.value := by decide +kernel

/-- Each of these steps answers next, and the safe returns meet their premise when nothing is pending on the lines. -/
theorem test_witness_CommandsKeepEntriesOwned :
    let s := segmented.setSlot 3 ⟨0, some patternEntry⟩
    answers (exec .scheduleUnitTick s) (fun t => decide (t.entry 3 = some patternEntry)) = true ∧ (∀ i, segmented.entry i = none) ∧
      answers (exec (.freeStep 1) segmented) (fun t => decide (t.store.segments = segmented.store.segments)) = true ∧ (s.line 0).owner = some 1 ∧
      s.store.segments[1] = some ⟨1, 4, 3⟩ ∧ segmented.scheduleToLines = [] := by decide +kernel

theorem test_witness_PortEventsStayInTheirPort :
    answers (exec (.windowOpen 2) attached) (fun t => (t.port 2).link.sel && !(attached.port 2).link.sel) = true := by
  decide +kernel

/-- The state after RESET with a tick to take. -/
def ready : State := { State.reset with pending := [.tick 0] }

/-- The step of `ready` answers next. -/
theorem test_witness_ready_steps : answers (step ready) (fun t => decide (t.timebase.value = 1)) = true := by
  decide +kernel

/-- The laws hold in `ready`, so it meets the hypotheses of StepsKeepTheRecords, StepsKeepTheCollisionLaw,
StepsKeepTheQueueLaw, StepsKeepTheDueLaw and StepsKeepResetAndLapse. -/
theorem test_witness_laws : LineLaw ready ∧ TimebaseLaw ready ∧ ResetLaw ready ∧ SafeLevelLaw ready ∧ TickLaw ready := by
  refine ⟨?_, ?_, ?_, ?_, .inl rfl, .inl rfl, fun p => .inl ?_⟩
  · intro i; simp [ready, State.reset, State.line, Line.reset]
  · simp only [TimebaseLaw]; decide +kernel
  · intro h; exact absurd h (by decide)
  · intro k _; simp [ready, State.reset, State.line, Line.reset]
  · simp [ready, State.reset, State.port, Port.reset, Wires.reset]

/-- With no entry and no item the other laws hold in `ready` too. -/
theorem test_witness_laws_of_empty_blocks : StoreLaw ready ∧ CollisionLaw ready ∧ CountLaw ready ∧
    SegmentLaw ready ∧ OwnershipLaw ready ∧ LapseLaw ready ∧ DueLaw ready ∧ ClockLaw ready ∧ QueueLaw ready := by
  have he : ∀ i, ready.entry i = none := by
    intro i; simp [ready, State.reset, State.entry, State.slot, ScheduleUnit.reset, Slot.reset]
  have hs : ∀ k : Fin 8, ready.store.segments[k] = none := by intro k; simp [ready, State.reset, PatternStore.reset]
  have hp : ∀ k : Fin 8, ready.trigger.places[k] = none := by intro k; simp [ready, State.reset, TriggerUnit.reset]
  have hq : ∀ p, (ready.port p).queue = NoticeQueue.reset := by intro p; simp [ready, State.reset, State.port, Port.reset]
  refine ⟨⟨?_, ?_⟩, ⟨?_, ?_⟩, ⟨?_, ?_⟩, ?_, ?_, ?_, ?_, ⟨?_, ?_⟩, ?_⟩
  · intro k g h; rw [hs] at h; cases h
  · intro j k g _ _ h; rw [hs] at h; cases h
  · intro i _ e _ _ h; rw [he] at h; cases h
  · intro i _ e _ _ _ _ _ h; rw [he] at h; cases h
  · intro i e _ h; rw [he] at h; cases h
  · intro k _ _ h; rw [hp] at h; cases h
  · intro i e _ _ h; rw [he] at h; cases h
  · intro i e _ h; rw [he] at h; cases h
  · intro p n h; simp [ready, State.reset, State.port, Port.reset, Session.reset] at h
  · intro i e _ h; rw [he] at h; cases h
  · intro n h; simp [ready, State.reset] at h
  · rfl
  · intro p; rw [hq]
    exact ⟨⟨by decide, ⟨0, by decide⟩, (fun m h => by cases h), (fun m h => by cases h), (fun m _ _ h => by cases h)⟩,
      fun _ => ⟨(fun it h => by cases h), (fun m h => by cases h)⟩⟩

end Sys2Proof.Tests
end

section
/-! SUPPORT. What each step leaves unchanged. A step answers a next state (`Yields`); an event of one port changes that
port alone and neither adds a tick under way nor breaks its lapse count (`PortEvent`); every step leaves the parts of the
state alone that are not its to change (`Frame`). -/

namespace Sys2Proof

/-! ### Which steps change what -/

/-- The assertion and the release of RESET. -/
def Instr.movesReset : Instr → Bool
  | .resetAssertion | .resetRelease => true
  | _ => false

/-- The steps that can change the level of a line. -/
def Instr.movesLevels : Instr → Bool
  | .drive _ | .schedule _ | .expiry _ | .releaseCompletion _ | .orphanCompletion _ | .lineStep _ | .resetAssertion => true
  | _ => false

/-- The steps that can change a line record. -/
def Instr.writesLines : Instr → Bool
  | .claim _ | .release _ | .drive _ | .schedule _ | .expiry _ | .releaseCompletion _ | .orphanCompletion _ | .lineStep _
  | .resetAssertion => true
  | _ => false

/-- The steps that can change a word of the pattern store. -/
def Instr.writesWords : Instr → Bool
  | .load _ | .resetAssertion => true
  | _ => false

/-- The steps that can change a segment record. -/
def Instr.writesSegments : Instr → Bool
  | .alloc _ | .free _ | .freeStep _ | .resetAssertion => true
  | _ => false

/-- The steps that can change the timebase value or send a tick. -/
def Instr.movesTime : Instr → Bool
  | .tick _ | .refclkPeriod _ | .resetAssertion => true
  | _ => false

/-- The steps that can change the timebase. -/
def Instr.writesTimebase : Instr → Bool
  | .prescale _ | .tick _ | .refclkPeriod _ | .resetAssertion => true
  | _ => false

/-- The steps that can change now. -/
def Instr.movesNow : Instr → Bool
  | .scheduleUnitTick | .resetAssertion => true
  | _ => false

/-- The steps that can change now, the timebase value or the ticks under way to the schedule unit. -/
def Instr.movesClock : Instr → Bool
  | .scheduleUnitTick | .tick _ | .refclkPeriod _ | .resetAssertion => true
  | _ => false

/-- The steps that can change a slot of the schedule unit. -/
def Instr.writesSlots : Instr → Bool
  | .schedule _ | .cancel _ | .expiry _ | .scheduleUnitTick | .releaseRequest _ | .releaseCancellationRequest _
  | .orphanRequest _ | .partingRequest _ | .resetAssertion => true
  | _ => false

/-- The steps that can change a subscription place. -/
def Instr.writesPlaces : Instr → Bool
  | .triggerUnitTick | .subscribe _ | .unsubscribe _ | .subscriptionStep _ | .resetAssertion => true
  | _ => false

namespace Machine

/-! ### The answer of a step -/

/-- The step answers a next state that satisfies P. -/
def Yields (o : Answer) (P : State → Prop) : Prop := ∃ t, o = .next t ∧ P t

theorem Yields.next {t : State} {P : State → Prop} (h : P t) : Yields (.next t) P := ⟨t, rfl, h⟩

theorem Yields.mono {o : Answer} {P Q : State → Prop} (h : Yields o P) (hpq : ∀ t, P t → Q t) : Yields o Q := by
  obtain ⟨t, ho, ht⟩ := h
  exact ⟨t, ho, hpq t ht⟩

theorem Yields.of_next {o : Answer} {P : State → Prop} {t : State} (h : Yields o P) (ho : o = .next t) : P t := by
  obtain ⟨u, hu, hP⟩ := h
  rw [ho, Host.Outcome.next.injEq] at hu
  exact hu ▸ hP

/-! ### One port -/

/-- R159 for one session record: `LapseLaw` says it of every port. -/
def Session.LapseOk (se : Session) : Prop :=
  ∀ n, se.lapseCount = some n → se.state = .attached ∧ 1 ≤ n ∧ n ≤ se.heartbeat.toNat

theorem lapseLaw_iff (s : State) : LapseLaw s ↔ ∀ p, (s.port p).session.LapseOk := Iff.rfl

/-- The fields of a session record that its lapse law speaks of. -/
def Session.clock (se : Session) : PortState × BitVec 24 × Option Nat := (se.state, se.heartbeat, se.lapseCount)

theorem Session.LapseOk.of_clock {a b : Session} (h : a.LapseOk) (e : b.clock = a.clock) : b.LapseOk := by
  simp only [Session.clock, Prod.mk.injEq] at e
  obtain ⟨hs, hh, hl⟩ := e
  intro n hn
  rw [hs, hh]
  exact h n (hl ▸ hn)

theorem Session.lapseOk_of_none {se : Session} (h : se.lapseCount = none) : se.LapseOk := by
  intro n hn
  rw [h] at hn
  cases hn

/-- A restart of the lapse timer gives a count in range (R166, R167, R169). -/
theorem Session.lapseOk_of_lapseFor {se : Session} (hs : se.state = .attached)
    (hl : se.lapseCount = lapseFor se.heartbeat) : se.LapseOk := by
  intro n hn
  rw [hl, lapseFor] at hn
  split at hn
  · cases hn
  · next h0 =>
    rw [Option.some.injEq] at hn
    have hne : se.heartbeat.toNat ≠ 0 := fun e => h0 (BitVec.eq_of_toNat_eq (by simpa using e))
    exact ⟨hs, by omega, by omega⟩

/-- What an event of a port keeps: no tick comes under way to it, and its lapse count stays in range. -/
structure Port.Steps (a b : Port) : Prop where
  ticks : b.wires.ticks <:+ a.wires.ticks
  lapse : a.session.LapseOk → b.session.LapseOk

theorem Port.Steps.refl (a : Port) : a.Steps a := ⟨List.suffix_refl _, id⟩

theorem Port.Steps.trans {a b c : Port} (h : a.Steps b) (h' : b.Steps c) : a.Steps c :=
  ⟨h'.ticks.trans h.ticks, h'.lapse ∘ h.lapse⟩

theorem Port.Steps.of_clock {a b : Port} (ht : b.wires.ticks = a.wires.ticks) (hc : b.session.clock = a.session.clock) :
    a.Steps b := ⟨ht ▸ List.suffix_refl _, fun h => h.of_clock hc⟩

/-- An event of port p: port p steps and nothing else changes. -/
def PortEvent (p : PortId) (s t : State) : Prop := ∃ pt, t = s.withPort p pt ∧ (s.port p).Steps pt

variable {s t u : State} {p : PortId}

theorem PortEvent.refl (p : PortId) (s : State) : PortEvent p s s := ⟨s.port p, by simp, .refl _⟩

theorem PortEvent.trans (h : PortEvent p s t) (h' : PortEvent p t u) : PortEvent p s u := by
  obtain ⟨a, rfl, ha⟩ := h
  obtain ⟨b, rfl, hb⟩ := h'
  exact ⟨b, by simp, ha.trans (by simpa using hb)⟩

theorem PortEvent.updPort (s : State) {f : Port → Port} (h : (s.port p).Steps (f (s.port p))) :
    PortEvent p s (s.updPort p f) := ⟨_, State.updPort_eq_withPort s p f, h⟩

theorem PortEvent.updLink (p : PortId) (s : State) (f : Link → Link) : PortEvent p s (s.updLink p f) :=
  .updPort s (.of_clock rfl rfl)

theorem PortEvent.updQueue (p : PortId) (s : State) (f : NoticeQueue → NoticeQueue) : PortEvent p s (s.updQueue p f) :=
  .updPort s (.of_clock rfl rfl)

theorem PortEvent.updWires (p : PortId) (s : State) {f : Wires → Wires}
    (h : (f (s.port p).wires).ticks <:+ (s.port p).wires.ticks) : PortEvent p s (s.updWires p f) := .updPort s ⟨h, id⟩

theorem PortEvent.updSession (p : PortId) (s : State) {f : Session → Session}
    (h : (s.port p).session.LapseOk → (f (s.port p).session).LapseOk) : PortEvent p s (s.updSession p f) :=
  .updPort s ⟨List.suffix_refl _, h⟩

theorem PortEvent.reply (p : PortId) (s : State) (st : Status) (r : Result) : PortEvent p s (s.reply p st r) :=
  .updWires p s (List.suffix_refl _)

theorem PortEvent.finish (p : PortId) (s : State) (st : Status) (r : Result) : PortEvent p s (s.finish p st r) :=
  .updWires p s (List.suffix_refl _)

theorem PortEvent.postSchedule (p : PortId) (s : State) (ns : List Notice) : PortEvent p s (s.postSchedule p ns) :=
  .updWires p s (List.suffix_refl _)

theorem PortEvent.postTrigger (p : PortId) (s : State) (n : Notice) : PortEvent p s (s.postTrigger p n) :=
  .updWires p s (List.suffix_refl _)

theorem PortEvent.replyParting (p : PortId) (s : State) (n : Nat) : PortEvent p s (s.replyParting p n) :=
  .updWires p s (List.suffix_refl _)

/-! ### Events of the port link controllers -/

theorem Port.abandon_steps (pt : Port) : pt.Steps pt.abandon := by
  unfold Port.abandon
  split
  · exact .of_clock (by dsimp only; split <;> rfl) rfl
  · exact .refl pt

theorem Port.closeResponse_steps (pt : Port) (edges : Nat) : pt.Steps (pt.closeResponse edges) := by
  unfold Port.closeResponse
  split
  · split
    · exact .of_clock (by dsimp only; split <;> rfl) rfl
    · exact .of_clock rfl rfl
  · exact .refl pt

theorem Port.loseLink_steps (pt : Port) (edges : Nat) : pt.Steps (pt.loseLink edges) :=
  (pt.closeResponse_steps edges).trans (.of_clock rfl rfl)

theorem Port.accept_steps (pt : Port) (sequence code : Byte) (args : List Byte) :
    pt.Steps (pt.accept sequence code args) := .of_clock rfl rfl

theorem Port.refuseFrame_steps (pt : Port) (echo : Byte) : pt.Steps (pt.refuseFrame echo) := .of_clock rfl rfl

theorem Port.discardFrame_steps (pt : Port) (discard : Bool) : pt.Steps (pt.discardFrame discard) := by
  cases discard
  · exact .of_clock rfl rfl
  · exact .refl pt

theorem Port.closeCommand_steps (pt : Port) (j : Judgement) : pt.Steps (pt.closeCommand j) := by
  cases j with
  | ignored => exact .refl pt
  | badFrame echo =>
    unfold Port.closeCommand
    dsimp only
    split
    · exact pt.refuseFrame_steps echo
    · exact pt.discardFrame_steps _
    · exact pt.abandon_steps.trans (Port.refuseFrame_steps _ echo)
    · exact .refl pt
  | accepted sequence code args =>
    unfold Port.closeCommand
    dsimp only
    split
    · exact pt.accept_steps sequence code args
    · exact pt.discardFrame_steps _
    · exact pt.abandon_steps.trans (Port.accept_steps _ sequence code args)
    · exact .refl pt

theorem Port.hand_steps (pt : Port) (r : Request) (c : Command) : pt.Steps (pt.hand r c) := by
  unfold Port.hand
  dsimp only
  split <;> exact .of_clock rfl rfl

theorem Port.takeAnswer_steps (pt : Port) (attached : Bool) : pt.Steps (pt.takeAnswer attached) := by
  unfold Port.takeAnswer
  split
  · split
    · exact .refl pt
    · split
      · exact .of_clock rfl rfl
      · split
        · exact .of_clock rfl rfl
        · exact pt.hand_steps _ _
  · exact .refl pt

theorem Port.takeCompletion_steps (pt : Port) (c : Completion) : pt.Steps (pt.takeCompletion c) := by
  unfold Port.takeCompletion
  dsimp only
  split
  · split
    · split <;> exact .of_clock rfl rfl
    · exact .of_clock rfl rfl
  · exact .refl pt

@[simp] theorem Wires.answerWithdrawal_ticks (w : Wires) (block : Block) (m : ToLink) :
    (w.answerWithdrawal block m).ticks = w.ticks := by
  unfold Wires.answerWithdrawal
  split <;> rfl

theorem Port.withdraw_steps (pt : Port) (w : Withdrawal) : pt.Steps (pt.withdraw w) := by
  unfold Port.withdraw
  dsimp only
  split
  · split <;> exact .of_clock (by simp) rfl
  · exact .of_clock (by simp) rfl

theorem Port.takeMessage_steps (pt : Port) (m : ToLink) : pt.Steps (pt.takeMessage m) := by
  cases m with
  | completion c => exact pt.takeCompletion_steps c
  | withdrawn =>
    have h : pt.Steps pt.takeWithdrawn := by
      unfold Port.takeWithdrawn
      split
      · exact .of_clock rfl rfl
      · exact .refl pt
    exact h.trans (.of_clock rfl rfl)
  | taken live => exact .of_clock rfl rfl
  | fetchWithdrawn =>
    show pt.Steps pt.takeFetchWithdrawn
    unfold Port.takeFetchWithdrawn
    split
    · exact .of_clock rfl rfl
    · exact .of_clock rfl rfl
    · exact .refl pt

theorem Port.takeDeparture_steps (pt : Port) (toDetached : Bool) : pt.Steps (pt.takeDeparture toDetached) := by
  unfold Port.takeDeparture
  split
  · exact .of_clock rfl rfl
  · split
    · exact .of_clock rfl rfl
    · unfold Port.departHanded
      dsimp only
      split
      · exact .of_clock rfl rfl
      · split
        · exact .of_clock rfl rfl
        · split <;> exact .of_clock rfl rfl
  · exact .of_clock rfl rfl
  · exact .of_clock rfl rfl

theorem Wires.offers_ticks {w : Wires} {x : ToLink × Wires} (h : x ∈ w.offers) : x.2.ticks = w.ticks := by
  unfold Wires.offers at h
  rw [List.mem_append] at h
  rcases h with h | h
  · split at h
    · rw [List.mem_singleton] at h
      rw [h]
    · cases h
  · split at h
    · rw [List.mem_singleton] at h
      rw [h]
    · cases h

theorem execLinkpFall_event (p : LinkFall) (s : State) : Yields (execLinkpFall p s) (PortEvent p.port s) := by
  have hfall : PortEvent p.port s (s.updPort p.port fun pt => pt.loseLink p.edges) :=
    .updPort s (Port.loseLink_steps _ _)
  unfold execLinkpFall
  split
  · exact .next (.refl _ s)
  · split
    · exact .next hfall
    · exact .next (hfall.trans (.updWires _ _ (List.suffix_refl _)))

theorem execLinkpRise_event (p : PortId) (s : State) : Yields (execLinkpRise p s) (PortEvent p s) := by
  unfold execLinkpRise
  split
  · exact .next (.refl p s)
  · split
    · exact .next (.updLink p s _)
    · exact .next ((PortEvent.updLink p s _).trans (.updWires _ _ (List.suffix_refl _)))

theorem execWindowOpen_event (p : PortId) (s : State) : Yields (execWindowOpen p s) (PortEvent p s) := by
  unfold execWindowOpen
  split
  · exact .next (.refl p s)
  · split <;> exact .next (.updLink p s _)

theorem execOpener_event (p : PortId) (bits : Vector Bool 8) (s : State) :
    Yields (execOpener p bits s) (PortEvent p s) := by
  unfold execOpener
  dsimp only
  split
  · split
    · exact .next (.updLink p s _)
    · split <;> exact .next (.updLink p s _)
  · exact .next (.refl p s)

theorem execCommandWindowClose_event (p : PortId) (bits stray : List Bool) (s : State) :
    Yields (execCommandWindowClose p bits stray s) (PortEvent p s) := by
  unfold execCommandWindowClose
  split
  · exact .next (.refl p s)
  · split
    · exact .next ((PortEvent.updLink p s _).trans (.updPort _ (Port.closeCommand_steps _ _)))
    · exact .next (.refl p s)
    · exact .next (.updLink p s _)

theorem execResponseWindowClose_event (p : PortId) (edges : Nat) (s : State) :
    Yields (execResponseWindowClose p edges s) (PortEvent p s) := by
  unfold execResponseWindowClose
  split
  · exact .next (.refl p s)
  · split
    · exact .next ((PortEvent.updLink p s _).trans (.updPort _ (Port.closeResponse_steps _ _)))
    · exact .next (.refl p s)
    · exact .next (.updLink p s _)

theorem execAcceptanceAnswer_event (p : PortId) (s : State) : Yields (execAcceptanceAnswer p s) (PortEvent p s) := by
  unfold execAcceptanceAnswer
  split
  · exact .next ((PortEvent.updWires p s (List.suffix_refl _)).trans (.updPort _ (Port.takeAnswer_steps _ _)))
  · exact .next (.refl p s)

/-- The taking of a message that the port link controller is offered is an event of its port. -/
theorem PortEvent.takeMessage {f : ToLink × Wires → Bool} {m : ToLink} {w : Wires}
    (h : (s.port p).wires.offers.find? f = some (m, w)) :
    PortEvent p s (s.updPort p fun pt => { pt with wires := w }.takeMessage m) :=
  have hw : w.ticks = (s.port p).wires.ticks := Wires.offers_ticks (List.mem_of_find?_eq_some h)
  .updPort s (.trans (b := { s.port p with wires := w }) (.of_clock hw rfl) (Port.takeMessage_steps _ m))

theorem execCompletion_event (p : PortId) (s : State) : Yields (execCompletion p s) (PortEvent p s) := by
  unfold execCompletion
  split
  · next h => exact .next (.takeMessage h)
  · exact .next (.refl p s)

theorem execWithdrawalReply_event (p : PortId) (s : State) : Yields (execWithdrawalReply p s) (PortEvent p s) := by
  unfold execWithdrawalReply
  split
  · next h => exact .next (.takeMessage h)
  · exact .next (.refl p s)

theorem execWithdrawalRequest_event (p : PortId) (block : Block) (s : State) :
    Yields (execWithdrawalRequest p block s) (PortEvent p s) := by
  unfold execWithdrawalRequest
  split
  · split
    · exact .next (.refl p s)
    · exact .next ((PortEvent.updWires p s (List.suffix_refl _)).trans (.updPort _ (Port.withdraw_steps _ _)))
  · exact .next (.refl p s)

theorem execDepartureInstruction_event (p : PortId) (s : State) :
    Yields (execDepartureInstruction p s) (PortEvent p s) := by
  unfold execDepartureInstruction
  split
  · exact .next ((PortEvent.updWires p s (List.suffix_refl _)).trans (.updPort _ (Port.takeDeparture_steps _ _)))
  · exact .next (.refl p s)

/-! ### Events of the notice queues -/

/-- A notice queue takes the message that stands first on its wires. -/
theorem PortEvent.takeFromWires (p : PortId) (s : State) {f : Wires → Wires} (g : NoticeQueue → NoticeQueue)
    (h : (f (s.port p).wires).ticks = (s.port p).wires.ticks) : PortEvent p s ((s.updWires p f).updQueue p g) :=
  (PortEvent.updWires p s (h ▸ List.suffix_refl _)).trans (.updQueue p _ g)

theorem execPost_event (p : PortId) (source : NoticeSource) (s : State) :
    Yields (execPost p source s) (PortEvent p s) := by
  unfold execPost
  cases source <;> dsimp only <;> split
  · exact .next (.takeFromWires p s _ rfl)
  · exact .next (.refl p s)
  · exact .next (.takeFromWires p s _ rfl)
  · exact .next (.refl p s)

theorem State.takeFetch_event (s : State) (p : PortId) (maximum : Byte) : PortEvent p s (s.takeFetch p maximum) := by
  unfold State.takeFetch
  dsimp only
  split
  · exact .updWires p s (List.suffix_refl _)
  · split
    · exact .finish p s _ _
    · exact (PortEvent.updQueue p s _).trans (.finish p _ _ _)

theorem execFetch_event (p : PortId) (s : State) : Yields (execFetch p s) (PortEvent p s) := by
  unfold execFetch
  split
  · split
    · exact .next (s.takeFetch_event p _)
    · exact .next (.refl p s)
  · exact .next (.refl p s)

theorem execAcknowledgement_event (p : PortId) (s : State) : Yields (execAcknowledgement p s) (PortEvent p s) := by
  unfold execAcknowledgement
  split
  · exact .next (.takeFromWires p s _ rfl)
  · exact .next (.refl p s)

theorem execReturnRequest_event (p : PortId) (s : State) : Yields (execReturnRequest p s) (PortEvent p s) := by
  unfold execReturnRequest
  split
  · exact .next (.takeFromWires p s _ rfl)
  · exact .next (.refl p s)

theorem execDepartureReport_event (p : PortId) (s : State) : Yields (execDepartureReport p s) (PortEvent p s) := by
  unfold execDepartureReport
  split
  · exact .next (.takeFromWires p s _ rfl)
  · exact .next (.refl p s)

theorem execAttachmentReport_event (p : PortId) (s : State) : Yields (execAttachmentReport p s) (PortEvent p s) := by
  unfold execAttachmentReport
  split
  · exact .next (.takeFromWires p s _ rfl)
  · exact .next (.refl p s)

theorem execFlush_event (p : PortId) (s : State) : Yields (execFlush p s) (PortEvent p s) := by
  unfold execFlush
  split
  · exact .next (.takeFromWires p s _ rfl)
  · exact .next (.refl p s)

/-! ### Events of the session controllers -/

/-- A change of the session record that its lapse law does not speak of. -/
theorem PortEvent.updSession_clock (p : PortId) (s : State) {f : Session → Session}
    (h : (f (s.port p).session).clock = (s.port p).session.clock) : PortEvent p s (s.updSession p f) :=
  .updSession p s fun hl => hl.of_clock h

theorem State.endStatus_event (s : State) (p : PortId) (record : StatusRecord) :
    PortEvent p s (s.endStatus p record) := by
  unfold State.endStatus
  dsimp only
  refine PortEvent.trans (PortEvent.trans ?_ (.updSession_clock p _ rfl)) (.reply p _ _ _)
  split
  · exact (PortEvent.updSession p s fun _ => Session.lapseOk_of_lapseFor rfl rfl).trans
      (.updWires p _ (List.suffix_refl _))
  · exact .refl p s

theorem State.takeQuestion_event (s : State) (p : PortId) (question : StatusQuestion) :
    PortEvent p s (s.takeQuestion p question) := by
  unfold State.takeQuestion
  dsimp only
  split
  · exact .refl p s
  · split
    · exact s.endStatus_event p _
    · exact .updSession_clock p s rfl

theorem execStatus_event (p : Ask) (s : State) : Yields (execStatus p s) (PortEvent p.port s) := by
  unfold execStatus
  split
  · split
    · exact .next (.refl _ s)
    · split
      · exact .next (s.takeQuestion_event _ _)
      · exact .next (.updSession_clock _ s rfl)
  · exact .next (.refl _ s)

theorem State.takeHeld_event (s : State) (p : PortId) : PortEvent p s (s.takeHeld p) := by
  unfold State.takeHeld
  split
  · split
    · exact .updSession_clock p s rfl
    · exact .refl p s
  · exact .refl p s

theorem execHeartbeat_event (p : PortId) (s : State) : Yields (execHeartbeat p s) (PortEvent p s) := by
  unfold execHeartbeat
  split
  · split
    · next hs =>
      refine .next ?_
      unfold State.takeHeartbeat
      dsimp only
      split
      · exact (PortEvent.updSession_clock p s rfl).trans (.reply p _ _ _)
      · exact (PortEvent.updSession p s fun _ => Session.lapseOk_of_lapseFor hs rfl).trans (.reply p _ _ _)
    · exact .next (.refl p s)
  · exact .next (.refl p s)

theorem execParting_event (p : PortId) (s : State) : Yields (execParting p s) (PortEvent p s) := by
  unfold execParting
  split
  · exact .next ((PortEvent.updSession_clock p s rfl).trans (.updWires p _ (List.suffix_refl _)))
  · exact .next (.refl p s)

@[simp] theorem Wires.sendStep_ticks (w : Wires) (step : PartingStep) : (w.sendStep step).ticks = w.ticks := by
  cases step <;> rfl

theorem execPartingStepReply_event (p : PortId) (s : State) : Yields (execPartingStepReply p s) (PortEvent p s) := by
  unfold execPartingStepReply
  split
  · split
    · exact .next (.refl p s)
    · exact .next ((PortEvent.updSession_clock p s rfl).trans (.updWires p _ (by simp)))
  · exact .next (.refl p s)

theorem execFlushReply_event (p : PortId) (s : State) : Yields (execFlushReply p s) (PortEvent p s) := by
  unfold execFlushReply
  split
  · split
    · refine .next ?_
      unfold State.endParting
      exact (((PortEvent.updSession p s fun _ => Session.lapseOk_of_none rfl).trans
        (.updWires p _ (List.suffix_refl _))).trans (.reply p _ _ _)).trans (State.takeHeld_event _ p)
    · exact .next (.refl p s)
  · exact .next (.refl p s)

/-- LINKP rises on a port: only a DETACHED one changes its state, and it has no lapse count (R159, R161). -/
theorem Session.LapseOk.rise {se : Session} (h : se.LapseOk) : se.rise.LapseOk := by
  unfold Session.rise
  split
  · next hd =>
    refine Session.lapseOk_of_none (Option.eq_none_iff_forall_ne_some.2 fun n hn => ?_)
    have hs := (h n hn).1
    rw [hd] at hs
    cases hs
  · exact h

theorem execReportOfLinkpRising_event (p : PortId) (s : State) :
    Yields (execReportOfLinkpRising p s) (PortEvent p s) := by
  unfold execReportOfLinkpRising
  split
  · split
    · exact .next (.refl p s)
    · exact .next ((PortEvent.updWires p s (List.suffix_refl _)).trans (.updSession p _ Session.LapseOk.rise))
  · exact .next (.refl p s)

theorem State.takeFall_event (s : State) (p : PortId) : PortEvent p s (s.takeFall p) := by
  unfold State.takeFall
  dsimp only
  exact (PortEvent.updSession p s fun _ => Session.lapseOk_of_none rfl).trans (.updWires p _ (List.suffix_refl _))

theorem execReportOfLinkpFalling_event (p : PortId) (s : State) :
    Yields (execReportOfLinkpFalling p s) (PortEvent p s) := by
  have hpop (rest : List LinkpReport) : PortEvent p s (s.updWires p fun w => { w with linkpReports := rest }) :=
    .updWires p s (List.suffix_refl _)
  unfold execReportOfLinkpFalling
  split
  · dsimp only
    split
    · exact .next (.refl p s)
    · split
      · exact .next (hpop _)
      · exact .next ((hpop _).trans (State.takeFall_event _ p))
  · exact .next (.refl p s)

theorem State.popTick_event (s : State) (p : PortId) : PortEvent p s (s.popTick p) :=
  .updWires p s (List.tail_suffix _)

theorem State.takeLapse_event (s : State) (p : PortId) : PortEvent p s (s.takeLapse p) :=
  (PortEvent.updSession p s fun _ => Session.lapseOk_of_none rfl).trans (.updWires p _ (List.suffix_refl _))

/-- A running lapse count belongs to an ATTACHED port. -/
theorem State.running_eq_some {n : Nat} (h : s.running p = some n) :
    (s.port p).session.state = .attached ∧ (s.port p).session.lapseCount = some n := by
  unfold State.running at h
  split at h
  · next hs => exact ⟨hs, h⟩
  · cases h

theorem State.sessionTick_event (s : State) (p : PortId) : PortEvent p s (s.sessionTick p) := by
  unfold State.sessionTick
  split
  · exact .refl p s
  · next n hn =>
    split
    · exact s.takeLapse_event p
    · refine .updSession p s fun hl m hm => ?_
      obtain ⟨hs, hc⟩ := State.running_eq_some hn
      have := hl n hc
      rw [Option.some.injEq] at hm
      exact ⟨hs, by omega, by dsimp only; omega⟩

theorem execSessionControllerTick_event (p : PortId) (s : State) :
    Yields (execSessionControllerTick p s) (PortEvent p s) := by
  unfold execSessionControllerTick
  split
  · split
    · exact .next (.refl p s)
    · exact .next ((s.popTick_event p).trans (State.sessionTick_event _ p))
  · exact .next (.refl p s)

theorem execLapse_event (p : PortId) (s : State) : Yields (execLapse p s) (PortEvent p s) := by
  unfold execLapse
  split
  · exact .next ((s.popTick_event p).trans (State.takeLapse_event _ p))
  · exact .next (.refl p s)

theorem Session.LapseOk.restart {se : Session} (h : se.LapseOk) : se.restart.LapseOk := by
  unfold Session.restart
  split
  · next hr => exact Session.lapseOk_of_lapseFor hr.1 (by rw [lapseFor, if_neg hr.2])
  · exact h

theorem execAcceptanceReport_event (p : PortId) (s : State) : Yields (execAcceptanceReport p s) (PortEvent p s) := by
  unfold execAcceptanceReport
  split
  · dsimp only
    split
    · exact .next (.refl p s)
    · exact .next ((PortEvent.updSession p s Session.LapseOk.restart).trans (.updWires p _ (List.suffix_refl _)))
  · exact .next (.refl p s)

theorem State.takeSettlement_event (s : State) (p : PortId) : PortEvent p s (s.takeSettlement p) := by
  unfold State.takeSettlement
  split
  · exact .refl p s
  · exact (PortEvent.updSession_clock p s rfl).trans (.updWires p _ (List.suffix_refl _))
  · exact (PortEvent.updSession_clock p s rfl).trans (State.takeHeld_event _ p)

theorem execSettlementReport_event (p : PortId) (s : State) : Yields (execSettlementReport p s) (PortEvent p s) := by
  unfold execSettlementReport
  split
  · split
    · exact .next (.refl p s)
    · exact .next ((PortEvent.updWires p s (List.suffix_refl _)).trans (State.takeSettlement_event _ p))
  · exact .next (.refl p s)

theorem execOrphanCompletionReply_event (p : PortId) (s : State) :
    Yields (execOrphanCompletionReply p s) (PortEvent p s) := by
  unfold execOrphanCompletionReply
  split
  · exact .next (((PortEvent.updWires p s (List.suffix_refl _)).trans (.updSession_clock p _ rfl)).trans
      (State.takeHeld_event _ p))
  · exact .next (.refl p s)

end Machine
end Sys2Proof
end

section
/-! SUPPORT. The frame of every step: the parts of the state that are not its to change stay as they were, and the lists of
ticks under way only grow by the tick. -/

namespace Sys2Proof.Machine

/-- What the step c leaves as it was. -/
structure Frame (c : Instr) (s t : State) : Prop where
  pending : t.pending = s.pending
  reset : c.movesReset = false → t.resetAsserted = s.resetAsserted
  levels : c.movesLevels = false → ∀ k, (t.line k).level = (s.line k).level
  lines : c.writesLines = false → t.lines = s.lines
  words : c.writesWords = false → t.store.words = s.store.words
  segments : c.writesSegments = false → t.store.segments = s.store.segments
  timebase : c.writesTimebase = false → t.timebase = s.timebase
  value : c.movesTime = false → t.timebase.value = s.timebase.value
  now : c.movesNow = false → t.schedule.now = s.schedule.now
  toSchedule : c.movesClock = false → t.ticksToSchedule = s.ticksToSchedule
  slots : c.writesSlots = false → t.schedule.slots = s.schedule.slots
  places : c.writesPlaces = false → t.trigger.places = s.trigger.places
  ticks : c.movesTime = false → t.ticksToSchedule <:+ s.ticksToSchedule ∧ t.ticksToTrigger <:+ s.ticksToTrigger ∧
    ∀ p, (t.port p).wires.ticks <:+ (s.port p).wires.ticks
  lapse : c.movesReset = false → LapseLaw s → LapseLaw t

variable {c : Instr} {s t u : State} {p : PortId}

theorem Frame.refl (s : State) : Frame c s s where
  pending := rfl
  reset _ := rfl
  levels _ _ := rfl
  lines _ := rfl
  words _ := rfl
  segments _ := rfl
  timebase _ := rfl
  value _ := rfl
  now _ := rfl
  toSchedule _ := rfl
  slots _ := rfl
  places _ := rfl
  ticks _ := ⟨List.suffix_refl _, List.suffix_refl _, fun _ => List.suffix_refl _⟩
  lapse _ := id

theorem Frame.trans (h : Frame c s t) (h' : Frame c t u) : Frame c s u where
  pending := h'.pending.trans h.pending
  reset e := (h'.reset e).trans (h.reset e)
  levels e k := (h'.levels e k).trans (h.levels e k)
  lines e := (h'.lines e).trans (h.lines e)
  words e := (h'.words e).trans (h.words e)
  segments e := (h'.segments e).trans (h.segments e)
  timebase e := (h'.timebase e).trans (h.timebase e)
  value e := (h'.value e).trans (h.value e)
  now e := (h'.now e).trans (h.now e)
  toSchedule e := (h'.toSchedule e).trans (h.toSchedule e)
  slots e := (h'.slots e).trans (h.slots e)
  places e := (h'.places e).trans (h.places e)
  ticks e := by
    obtain ⟨hs, ht, hp⟩ := h.ticks e
    obtain ⟨hs', ht', hp'⟩ := h'.ticks e
    exact ⟨hs'.trans hs, ht'.trans ht, fun p => (hp' p).trans (hp p)⟩
  lapse e := h'.lapse e ∘ h.lapse e

theorem Frame.foldl {α : Type} (f : State → α → State) (h : ∀ u a, Frame c u (f u a)) (l : List α) (s : State) :
    Frame c s (l.foldl f s) := by
  induction l generalizing s with
  | nil => exact .refl s
  | cons a l ih => exact (h s a).trans (ih (f s a))

/-! ### The frames of the operations -/

theorem Frame.of_event (h : PortEvent p s t) : Frame c s t := by
  obtain ⟨pt, rfl, hpt⟩ := h
  have hport (q : PortId) : (s.port q).Steps ((s.withPort p pt).port q) := by
    by_cases hq : q = p
    · subst hq
      rwa [State.withPort_port_same]
    · rw [State.withPort_port_other _ _ hq]
      exact .refl _
  exact { Frame.refl s with
    ticks := fun _ => ⟨List.suffix_refl _, List.suffix_refl _, fun q => (hport q).ticks⟩
    lapse := fun _ h q => (hport q).lapse (h q) }

theorem Frame.finish (p : PortId) (s : State) (st : Status) (r : Result) : Frame c s (s.finish p st r) :=
  .of_event (.finish p s st r)

theorem Frame.updLines (s : State) (f : Fin 16 → Line → Line) (hw : c.writesLines = true)
    (hl : c.movesLevels = true ∨ ∀ k l, (f k l).level = l.level) : Frame c s (s.updLines f) := by
  obtain ⟨records, h, -⟩ := State.updLines_spec s f
  have hlevels : c.movesLevels = false → ∀ k, ((s.updLines f).line k).level = (s.line k).level := fun e k => by
    rw [State.updLines_line]
    exact hl.resolve_left (by simp [e]) k _
  rw [h] at hlevels ⊢
  exact { Frame.refl s with levels := hlevels, lines := fun e => by simp [hw] at e }

theorem Frame.returnLines (s : State) (f : Fin 16 → Line → Bool) (hw : c.writesLines = true)
    (hl : c.movesLevels = true) : Frame c s (s.returnLines f) := .updLines s _ hw (.inl hl)

theorem Frame.setSegments (s : State) (v : Vector (Option Segment) 8) (hw : c.writesSegments = true) :
    Frame c s { s with store := { s.store with segments := v } } :=
  { Frame.refl s with segments := fun e => by simp [hw] at e }

theorem Frame.setWords (s : State) (v : Vector LevelSet 256) (hw : c.writesWords = true) :
    Frame c s { s with store := { s.store with words := v } } :=
  { Frame.refl s with words := fun e => by simp [hw] at e }

theorem Frame.setTrigger (s : State) (u : TriggerUnit) (hw : c.writesPlaces = true) :
    Frame c s { s with trigger := u } :=
  { Frame.refl s with places := fun e => by simp [hw] at e }

theorem Frame.setSlots (s : State) (v : Vector Slot 64) (hw : c.writesSlots = true) :
    Frame c s { s with schedule := { s.schedule with slots := v } } :=
  { Frame.refl s with slots := fun e => by simp [hw] at e }

theorem Frame.setSlot (s : State) (i : SlotId) (sl : Slot) (hw : c.writesSlots = true) : Frame c s (s.setSlot i sl) :=
  .setSlots s _ hw

theorem Frame.endEntry (s : State) (i : SlotId) (hw : c.writesSlots = true) : Frame c s (s.endEntry i) :=
  .setSlots s _ hw

/-- The lists of messages between the blocks that no law of this part speaks of. -/
theorem Frame.setMessages (s : State) (rr : List ReleaseRequest) (er : List Tick) (sl : List LineReply) :
    Frame c s { s with releaseRequests := rr, endOfTickReports := er, scheduleToLines := sl } :=
  { Frame.refl s with }

/-! ### The timebase -/

theorem execTime_frame (p : PortId) (s : State) : Yields (execTime p s) (Frame (.time p) s) := by
  unfold execTime
  split
  · exact .next (.finish p s _ _)
  · exact .next (.refl s)

theorem execPrescale_frame (p : PortId) (s : State) : Yields (execPrescale p s) (Frame (.prescale p) s) := by
  have hset (n : Nat) : Frame (.prescale p) s { s with timebase := { s.timebase with prescale := n } } :=
    { Frame.refl s with timebase := fun e => by simp [Instr.writesTimebase] at e }
  unfold execPrescale
  split
  · refine .next ?_
    unfold State.takePrescale
    split
    · exact .finish p s _ _
    · split
      · exact .finish p s _ _
      · exact (hset _).trans (.finish p _ _ _)
  · exact .next (.refl s)

@[simp] theorem State.deliverTick_port (s : State) (levels : BitVec 4) (p : PortId) :
    (s.deliverTick levels).port p =
      { s.port p with wires := { (s.port p).wires with ticks := (s.port p).wires.ticks ++ [s.timebase.value + 1] } } := by
  simp [State.deliverTick, State.port, Timebase.tick]

theorem Frame.deliverTick (s : State) (levels : BitVec 4) (hv : c.movesTime = true) (ht : c.writesTimebase = true)
    (hc : c.movesClock = true) : Frame c s (s.deliverTick levels) :=
  { Frame.refl s with
    timebase := fun e => by simp [ht] at e
    value := fun e => by simp [hv] at e
    toSchedule := fun e => by simp [hc] at e
    ticks := fun e => by simp [hv] at e
    lapse := fun _ h p n hn => by
      rw [State.deliverTick_port] at hn ⊢
      exact h p n hn }

theorem Frame.makeTick (s : State) (levels : BitVec 4) (hv : c.movesTime = true) (ht : c.writesTimebase = true)
    (hc : c.movesClock = true) : Frame c s (s.makeTick levels) := by
  unfold State.makeTick
  split
  · exact .deliverTick s levels hv ht hc
  · exact .refl s

theorem execTick_frame (levels : BitVec 4) (s : State) : Yields (execTick levels s) (Frame (.tick levels) s) := by
  unfold execTick
  split
  · exact .next (.refl s)
  · exact .next (.makeTick s levels rfl rfl rfl)

theorem execRefclkPeriod_frame (levels : BitVec 4) (s : State) :
    Yields (execRefclkPeriod levels s) (Frame (.refclkPeriod levels) s) := by
  unfold execRefclkPeriod
  split
  · exact .next (.refl s)
  · refine .next ?_
    unfold State.refclk
    split
    · exact .makeTick s levels rfl rfl rfl
    · exact { Frame.refl s with timebase := fun e => by simp [Instr.writesTimebase] at e }

/-! ### RESET -/

@[simp] theorem State.reset_line (k : Fin 16) : State.reset.line k = Line.reset := by simp [State.reset, State.line]

@[simp] theorem State.reset_slot (i : SlotId) : State.reset.slot i = Slot.reset := by
  simp [State.reset, State.slot, ScheduleUnit.reset]

@[simp] theorem State.reset_entry (i : SlotId) : State.reset.entry i = none := by
  rw [State.entry, State.reset_slot]
  rfl

theorem State.reset_words (w : Fin 256) : State.reset.store.words[w] = 0 := by simp [State.reset, PatternStore.reset]

theorem State.reset_segments (k : Fin 8) : State.reset.store.segments[k] = none := by
  simp [State.reset, PatternStore.reset]

theorem State.reset_inputs (k : Fin 4) : State.reset.trigger.inputs[k] = Input.reset := by
  simp [State.reset, TriggerUnit.reset]

theorem State.reset_places (k : Fin 8) : State.reset.trigger.places[k] = none := by
  simp [State.reset, TriggerUnit.reset]

@[simp] theorem State.reset_port (p : PortId) :
    State.reset.port p = Port.reset true false (.recovering .reset) := by simp [State.reset, State.port]

@[simp] theorem State.assertReset_line (s : State) (k : Fin 16) : s.assertReset.line k = Line.reset :=
  State.reset_line k

@[simp] theorem State.assertReset_slot (s : State) (i : SlotId) : s.assertReset.slot i = Slot.reset :=
  State.reset_slot i

@[simp] theorem State.assertReset_entry (s : State) (i : SlotId) : s.assertReset.entry i = none :=
  State.reset_entry i

@[simp] theorem State.assertReset_port (s : State) (p : PortId) :
    s.assertReset.port p = Port.reset (s.port p).link.linkp (s.port p).link.sel .detached := by
  simp [State.assertReset, State.port]

theorem execResetAssertion_frame (s : State) : Yields (execResetAssertion s) (Frame .resetAssertion s) :=
  .next
    { pending := rfl
      reset := fun e => by cases e
      levels := fun e => by cases e
      lines := fun e => by cases e
      words := fun e => by cases e
      segments := fun e => by cases e
      timebase := fun e => by cases e
      value := fun e => by cases e
      now := fun e => by cases e
      toSchedule := fun e => by cases e
      slots := fun e => by cases e
      places := fun e => by cases e
      ticks := fun e => by cases e
      lapse := fun e => by cases e }

@[simp] theorem State.releaseReset_port (s : State) (p : PortId) : s.releaseReset.port p =
    { s.port p with session := { (s.port p).session with state := startState (s.port p).link.linkp } } := by
  simp [State.releaseReset, State.port]

theorem execResetRelease_frame (s : State) : Yields (execResetRelease s) (Frame .resetRelease s) := by
  unfold execResetRelease
  split
  · exact .next
      { Frame.refl s with
        reset := fun e => by cases e
        ticks := fun _ => ⟨List.suffix_refl _, List.suffix_refl _, fun p => by simp⟩
        lapse := fun e => by cases e }
  · exact .next (.refl s)

/-! ### The line table -/

theorem execClaim_frame (p : PortId) (s : State) : Yields (execClaim p s) (Frame (.claim p) s) := by
  unfold execClaim
  split
  · refine .next ?_
    unfold State.takeClaim
    split
    · exact .finish p s _ _
    · split
      · exact .finish p s _ _
      · split
        · exact .finish p s _ _
        · refine (Frame.updLines s _ rfl (.inr fun k l => ?_)).trans (.finish p _ _ _)
          split <;> rfl
  · exact .next (.refl s)

theorem execRelease_frame (p : PortId) (s : State) : Yields (execRelease p s) (Frame (.release p) s) := by
  unfold execRelease
  split
  · refine .next ?_
    unfold State.takeRelease
    split
    · exact .finish p s _ _
    · split
      · exact .finish p s _ _
      · refine (Frame.updLines s _ rfl (.inr fun k l => ?_)).trans (.of_event (.updPort _ (.of_clock rfl rfl)))
        split <;> rfl
  · exact .next (.refl s)

theorem execDrive_frame (p : PortId) (s : State) : Yields (execDrive p s) (Frame (.drive p) s) := by
  unfold execDrive
  split
  · refine .next ?_
    unfold State.takeDrive
    split
    · exact .finish p s _ _
    · split
      · exact .finish p s _ _
      · exact (Frame.updLines s _ rfl (.inl rfl)).trans (.finish p _ _ _)
  · exact .next (.refl s)

theorem execLines_frame (p : PortId) (s : State) : Yields (execLines p s) (Frame (.lines p) s) := by
  unfold execLines
  split
  · exact .next (.finish p s _ _)
  · exact .next (.refl s)

theorem State.completeRelease_frame (s : State) (p : PortId) (cancelled : Nat) :
    Frame (.releaseCompletion p) s (s.completeRelease p cancelled) := by
  unfold State.completeRelease
  exact (Frame.returnLines s _ rfl rfl).trans (.of_event (.updPort _ (.of_clock rfl rfl)))

theorem execReleaseCompletion_frame (p : PortId) (s : State) :
    Yields (execReleaseCompletion p s) (Frame (.releaseCompletion p) s) := by
  unfold execReleaseCompletion
  split
  · next rest _ =>
    split
    · exact .next ((Frame.setMessages s s.releaseRequests s.endOfTickReports rest).trans
        (State.completeRelease_frame _ p _))
    · exact .next (.refl s)
  · exact .next (.refl s)

theorem execOrphanStart_frame (p : PortId) (s : State) : Yields (execOrphanStart p s) (Frame (.orphanStart p) s) := by
  unfold execOrphanStart
  split
  · exact .next (.of_event ((PortEvent.updWires p s (List.suffix_refl _)).trans (.updPort _ (.of_clock rfl rfl))))
  · exact .next (.refl s)

theorem State.completeOrphan_frame (s : State) (p : PortId) :
    Frame (.orphanCompletion p) s (s.completeOrphan p) := by
  unfold State.completeOrphan
  exact (Frame.returnLines s _ rfl rfl).trans (.of_event (.updPort _ (.of_clock rfl rfl)))

theorem execOrphanCompletion_frame (p : PortId) (s : State) :
    Yields (execOrphanCompletion p s) (Frame (.orphanCompletion p) s) := by
  unfold execOrphanCompletion
  split
  · next rest _ =>
    split
    · exact .next ((Frame.setMessages s s.releaseRequests s.endOfTickReports rest).trans
        (State.completeOrphan_frame _ p))
    · exact .next (.refl s)
  · exact .next (.refl s)

theorem execLineStep_frame (p : PortId) (s : State) : Yields (execLineStep p s) (Frame (.lineStep p) s) := by
  unfold execLineStep
  split
  · exact .next ((Frame.returnLines s _ rfl rfl).trans (.of_event (.updWires p _ (List.suffix_refl _))))
  · exact .next (.refl s)

/-! ### The pattern store -/

theorem execAlloc_frame (p : PortId) (s : State) : Yields (execAlloc p s) (Frame (.alloc p) s) := by
  unfold execAlloc
  split
  · refine .next ?_
    unfold State.takeAlloc
    dsimp only
    split
    · exact .finish p s _ _
    · split
      · exact .finish p s _ _
      · split
        · exact .finish p s _ _
        · exact (Frame.setSegments s _ rfl).trans (.finish p _ _ _)
  · exact .next (.refl s)

theorem execFree_frame (p : PortId) (s : State) : Yields (execFree p s) (Frame (.free p) s) := by
  unfold execFree
  split
  · refine .next ?_
    unfold State.takeFree
    split
    · exact .finish p s _ _
    · split
      · exact .finish p s _ _
      · split
        · exact .finish p s _ _
        · exact (Frame.setSegments s _ rfl).trans (.finish p _ _ _)
  · exact .next (.refl s)

theorem execLoad_frame (p : PortId) (s : State) : Yields (execLoad p s) (Frame (.load p) s) := by
  unfold execLoad
  split
  · refine .next ?_
    unfold State.takeLoad
    dsimp only
    split
    · exact .finish p s _ _
    · split
      · exact .finish p s _ _
      · split
        · exact .finish p s _ _
        · exact (Frame.setWords s _ rfl).trans (.finish p _ _ _)
  · exact .next (.refl s)

theorem execSegments_frame (p : PortId) (s : State) : Yields (execSegments p s) (Frame (.segments p) s) := by
  unfold execSegments
  split
  · exact .next (.finish p s _ _)
  · exact .next (.refl s)

theorem execFreeStep_frame (p : PortId) (s : State) : Yields (execFreeStep p s) (Frame (.freeStep p) s) := by
  unfold execFreeStep
  split
  · exact .next ((Frame.setSegments s _ rfl).trans (.of_event (.replyParting p _ _)))
  · exact .next (.refl s)

/-! ### The schedule unit -/

theorem Frame.fire (s : State) (i : SlotId) (e : Entry) (late : Bool) (hl : c.writesLines = true)
    (hm : c.movesLevels = true) (hs : c.writesSlots = true) : Frame c s (s.fire i e late) := by
  have hdriven : Frame c s (s.applyFiring (e.action.firing s.store) e.lines) := .updLines s _ hl (.inl hm)
  unfold State.fire
  dsimp only
  split
  · exact (hdriven.trans (.endEntry _ i hs)).trans (.of_event (.postSchedule _ _ _))
  · split
    · exact (hdriven.trans (.endEntry _ i hs)).trans (.of_event (.postSchedule _ _ _))
    · exact (hdriven.trans (.setSlot _ i _ hs)).trans (.of_event (.postSchedule _ _ _))

theorem execExpiry_frame (i : SlotId) (s : State) : Yields (execExpiry i s) (Frame (.expiry i) s) := by
  unfold execExpiry
  split
  · split
    · exact .next (Frame.fire s i _ _ rfl rfl rfl)
    · exact .next (.refl s)
  · exact .next (.refl s)

theorem State.createTimed_frame (s : State) (p : PortId) (i : SlotId) (pl : Plan) (due : Tick)
    (lp : Option LatePolicy) : Frame (.schedule p) s (s.createTimed p i pl due lp) := by
  unfold State.createTimed
  split
  · exact .finish p s _ _
  · exact (Frame.setSlot s i _ rfl).trans (.finish p _ _ _)

theorem State.createWaiting_frame (s : State) (p : PortId) (i : SlotId) (pl : Plan) (input : InputId)
    (sel : EdgeSelection) (offset : BitVec 24) :
    Frame (.schedule p) s (s.createWaiting p i pl input sel offset) := by
  unfold State.createWaiting
  split
  · exact .finish p s _ _
  · exact (Frame.setSlot s i _ rfl).trans (.finish p _ _ _)

theorem State.createFireNow_frame (s : State) (p : PortId) (i : SlotId) (pl : Plan) :
    Frame (.schedule p) s (s.createFireNow p i pl) := by
  unfold State.createFireNow
  dsimp only
  split
  · exact (Frame.fire s i _ _ rfl rfl rfl).trans (.finish p _ _ _)
  · split
    · exact .finish p s _ _
    · exact (Frame.fire s i _ _ rfl rfl rfl).trans (.finish p _ _ _)

theorem State.create_frame (s : State) (p : PortId) (i : SlotId) (pl : Plan) :
    Frame (.schedule p) s (s.create p i pl) := by
  unfold State.create
  split
  · exact s.createWaiting_frame p i pl _ _ _
  · exact s.createTimed_frame p i pl _ _
  · split
    · exact s.createTimed_frame p i pl _ _
    · split
      · exact .finish p s _ _
      · exact s.createFireNow_frame p i pl

theorem execSchedule_frame (p : PortId) (s : State) : Yields (execSchedule p s) (Frame (.schedule p) s) := by
  unfold execSchedule
  split
  · refine .next ?_
    unfold State.takeSchedule
    split
    · exact .finish p s _ _
    · split
      · exact .finish p s _ _
      · split
        · exact .refl s
        · split
          · exact .finish p s _ _
          · split
            · exact .finish p s _ _
            · exact s.create_frame p _ _
  · exact .next (.refl s)

theorem execCancel_frame (p : PortId) (s : State) : Yields (execCancel p s) (Frame (.cancel p) s) := by
  unfold execCancel
  split
  · refine .next ?_
    unfold State.takeCancel
    split
    · exact .finish p s _ _
    · exact (Frame.endEntry s _ rfl).trans (.finish p _ _ _)
  · exact .next (.refl s)

theorem execQuery_frame (p : PortId) (s : State) : Yields (execQuery p s) (Frame (.query p) s) := by
  unfold execQuery
  split
  · refine .next ?_
    unfold State.takeQuery
    split <;> exact .finish p s _ _
  · exact .next (.refl s)

theorem execList_frame (p : PortId) (s : State) : Yields (execList p s) (Frame (.list p) s) := by
  unfold execList
  split
  · refine .next ?_
    unfold State.takeList
    split <;> exact .finish p s _ _
  · exact .next (.refl s)

theorem execScheduleUnitTick_frame (s : State) : Yields (execScheduleUnitTick s) (Frame .scheduleUnitTick s) := by
  unfold execScheduleUnitTick
  split
  · next t rest hticks =>
    split
    · exact .next
        { Frame.refl s with
          now := fun e => by cases e
          toSchedule := fun e => by cases e
          slots := fun e => by cases e
          ticks := fun _ =>
            ⟨hticks ▸ List.suffix_cons t rest, List.suffix_refl _, fun _ => List.suffix_refl _⟩ }
    · exact .next (.refl s)
  · exact .next (.refl s)

theorem execEndOfTickReport_frame (s : State) : Yields (execEndOfTickReport s) (Frame .endOfTickReport s) := by
  unfold execEndOfTickReport
  split
  · split
    · exact .next { Frame.refl s with }
    · exact .next (.refl s)
  · exact .next (.refl s)

theorem Frame.releaseSlot (r : ReleaseRequest) (s : State) (i : SlotId) (hs : c.writesSlots = true) :
    Frame c s (State.releaseSlot r s i) := by
  unfold State.releaseSlot
  dsimp only
  split
  · exact .refl s
  · split
    · exact .refl s
    · split
      · exact (Frame.endEntry s i hs).trans (.of_event (.postSchedule _ _ _))
      · exact .setSlot s i _ hs

theorem execReleaseRequest_frame (input : InputId) (s : State) :
    Yields (execReleaseRequest input s) (Frame (.releaseRequest input) s) := by
  unfold execReleaseRequest
  split
  · next r _ =>
    exact .next ((Frame.setMessages s _ s.endOfTickReports s.scheduleToLines).trans
      (.foldl _ (fun u i => .releaseSlot r u i rfl) _ _))
  · exact .next (.refl s)

theorem Frame.cancelEntries (s : State) (p : PortId) (f : Entry → Bool) (cause : Option CancelCause)
    (hs : c.writesSlots = true) : Frame c s (s.cancelEntries p f cause) := by
  unfold State.cancelEntries
  dsimp only
  split
  · exact .setSlots s _ hs
  · exact (Frame.setSlots s _ hs).trans (.of_event (.postSchedule p _ _))

theorem execReleaseCancellationRequest_frame (p : PortId) (s : State) :
    Yields (execReleaseCancellationRequest p s) (Frame (.releaseCancellationRequest p) s) := by
  unfold execReleaseCancellationRequest
  split
  · exact .next (((Frame.cancelEntries s p _ _ rfl).trans (.of_event (.updWires p _ (List.suffix_refl _)))).trans
      (.setMessages _ _ _ _))
  · exact .next (.refl s)

theorem execOrphanRequest_frame (p : PortId) (s : State) :
    Yields (execOrphanRequest p s) (Frame (.orphanRequest p) s) := by
  unfold execOrphanRequest
  split
  · exact .next (((Frame.cancelEntries s p _ _ rfl).trans (.of_event (.updWires p _ (List.suffix_refl _)))).trans
      (.setMessages _ _ _ _))
  · exact .next (.refl s)

theorem execPartingRequest_frame (p : PortId) (s : State) :
    Yields (execPartingRequest p s) (Frame (.partingRequest p) s) := by
  unfold execPartingRequest
  split
  · exact .next ((Frame.cancelEntries s p _ _ rfl).trans (.of_event (.replyParting p _ _)))
  · exact .next (.refl s)

/-! ### The trigger unit -/

theorem Frame.notifyPlace (input : InputId) (d : Direction) (t : Tick) (s : State) (k : Fin 8)
    (hs : c.writesPlaces = true) : Frame c s (State.notifyPlace input d t s k) := by
  unfold State.notifyPlace
  split
  · exact .refl s
  · split
    · exact (Frame.setTrigger s _ hs).trans (.of_event (.postTrigger _ _ _))
    · exact .refl s

theorem Frame.inputTick (levels : BitVec 4) (t : Tick) (s : State) (k : InputId)
    (hs : c.writesPlaces = true) : Frame c s (State.inputTick levels t s k) := by
  unfold State.inputTick
  dsimp only
  split
  · exact .setTrigger s _ hs
  · exact ((Frame.setTrigger s _ hs).trans
      (.foldl _ (fun u n => .notifyPlace k _ t u n hs) _ _)).trans (.setMessages _ _ _ _)

theorem execTriggerUnitTick_frame (s : State) : Yields (execTriggerUnitTick s) (Frame .triggerUnitTick s) := by
  unfold execTriggerUnitTick
  split
  · next t levels rest hticks =>
    have hpop : Frame .triggerUnitTick s { s with ticksToTrigger := rest } :=
      { Frame.refl s with
        ticks := fun _ => ⟨List.suffix_refl _, hticks ▸ List.suffix_cons (t, levels) rest, fun _ => List.suffix_refl _⟩ }
    exact .next ((hpop.trans (.foldl _ (fun u k => .inputTick levels t u k rfl) _ _)).trans
      (.setMessages _ _ _ _))
  · exact .next (.refl s)

theorem execSubscribe_frame (p : PortId) (s : State) : Yields (execSubscribe p s) (Frame (.subscribe p) s) := by
  unfold execSubscribe
  split
  · refine .next ?_
    unfold State.takeSubscribe
    split
    · split
      · exact .finish p s _ _
      · split
        · exact .finish p s _ _
        · exact (Frame.setTrigger s _ rfl).trans (.finish p _ _ _)
    · exact .finish p s _ _
  · exact .next (.refl s)

theorem execUnsubscribe_frame (p : PortId) (s : State) : Yields (execUnsubscribe p s) (Frame (.unsubscribe p) s) := by
  unfold execUnsubscribe
  split
  · refine .next ?_
    unfold State.takeUnsubscribe
    split
    · exact .finish p s _ _
    · split
      · exact .finish p s _ _
      · split
        · exact .finish p s _ _
        · exact (Frame.setTrigger s _ rfl).trans (.finish p _ _ _)
  · exact .next (.refl s)

theorem execInputs_frame (p : PortId) (s : State) : Yields (execInputs p s) (Frame (.inputs p) s) := by
  unfold execInputs
  split
  · exact .next (.finish p s _ _)
  · exact .next (.refl s)

theorem execSubscriptionStep_frame (p : PortId) (s : State) :
    Yields (execSubscriptionStep p s) (Frame (.subscriptionStep p) s) := by
  unfold execSubscriptionStep
  split
  · exact .next ((Frame.setTrigger s _ rfl).trans (.of_event (.replyParting p _ _)))
  · exact .next (.refl s)

/-! ### Every step -/

/-- Every step answers a next state and leaves what is not its to change. -/
theorem exec_frame (c : Instr) (s : State) : Yields (exec c s) (Frame c s) := by
  cases c with
  | status p => exact (execStatus_event p s).mono fun _ => .of_event
  | heartbeat p => exact (execHeartbeat_event p s).mono fun _ => .of_event
  | parting p => exact (execParting_event p s).mono fun _ => .of_event
  | fetch p => exact (execFetch_event p s).mono fun _ => .of_event
  | time p => exact execTime_frame p s
  | prescale p => exact execPrescale_frame p s
  | claim p => exact execClaim_frame p s
  | release p => exact execRelease_frame p s
  | drive p => exact execDrive_frame p s
  | lines p => exact execLines_frame p s
  | schedule p => exact execSchedule_frame p s
  | cancel p => exact execCancel_frame p s
  | query p => exact execQuery_frame p s
  | list p => exact execList_frame p s
  | alloc p => exact execAlloc_frame p s
  | free p => exact execFree_frame p s
  | load p => exact execLoad_frame p s
  | segments p => exact execSegments_frame p s
  | subscribe p => exact execSubscribe_frame p s
  | unsubscribe p => exact execUnsubscribe_frame p s
  | inputs p => exact execInputs_frame p s
  | resetAssertion => exact execResetAssertion_frame s
  | resetRelease => exact execResetRelease_frame s
  | tick levels => exact execTick_frame levels s
  | scheduleUnitTick => exact execScheduleUnitTick_frame s
  | expiry i => exact execExpiry_frame i s
  | triggerUnitTick => exact execTriggerUnitTick_frame s
  | releaseRequest input => exact execReleaseRequest_frame input s
  | endOfTickReport => exact execEndOfTickReport_frame s
  | sessionControllerTick p => exact (execSessionControllerTick_event p s).mono fun _ => .of_event
  | lapse p => exact (execLapse_event p s).mono fun _ => .of_event
  | linkpFall p => exact (execLinkpFall_event p s).mono fun _ => .of_event
  | linkpRise p => exact (execLinkpRise_event p s).mono fun _ => .of_event
  | reportOfLinkpRising p => exact (execReportOfLinkpRising_event p s).mono fun _ => .of_event
  | reportOfLinkpFalling p => exact (execReportOfLinkpFalling_event p s).mono fun _ => .of_event
  | windowOpen p => exact (execWindowOpen_event p s).mono fun _ => .of_event
  | opener p bits => exact (execOpener_event p bits s).mono fun _ => .of_event
  | commandWindowClose p bits stray => exact (execCommandWindowClose_event p bits stray s).mono fun _ => .of_event
  | responseWindowClose p edges => exact (execResponseWindowClose_event p edges s).mono fun _ => .of_event
  | acceptanceReport p => exact (execAcceptanceReport_event p s).mono fun _ => .of_event
  | acceptanceAnswer p => exact (execAcceptanceAnswer_event p s).mono fun _ => .of_event
  | completion p => exact (execCompletion_event p s).mono fun _ => .of_event
  | withdrawalRequest p block => exact (execWithdrawalRequest_event p block s).mono fun _ => .of_event
  | withdrawalReply p => exact (execWithdrawalReply_event p s).mono fun _ => .of_event
  | departureInstruction p => exact (execDepartureInstruction_event p s).mono fun _ => .of_event
  | settlementReport p => exact (execSettlementReport_event p s).mono fun _ => .of_event
  | departureReport p => exact (execDepartureReport_event p s).mono fun _ => .of_event
  | attachmentReport p => exact (execAttachmentReport_event p s).mono fun _ => .of_event
  | acknowledgement p => exact (execAcknowledgement_event p s).mono fun _ => .of_event
  | returnRequest p => exact (execReturnRequest_event p s).mono fun _ => .of_event
  | post p source => exact (execPost_event p source s).mono fun _ => .of_event
  | releaseCancellationRequest p => exact execReleaseCancellationRequest_frame p s
  | releaseCompletion p => exact execReleaseCompletion_frame p s
  | orphanStart p => exact execOrphanStart_frame p s
  | orphanRequest p => exact execOrphanRequest_frame p s
  | orphanCompletion p => exact execOrphanCompletion_frame p s
  | orphanCompletionReply p => exact (execOrphanCompletionReply_event p s).mono fun _ => .of_event
  | partingRequest p => exact execPartingRequest_frame p s
  | lineStep p => exact execLineStep_frame p s
  | freeStep p => exact execFreeStep_frame p s
  | subscriptionStep p => exact execSubscriptionStep_frame p s
  | flush p => exact (execFlush_event p s).mono fun _ => .of_event
  | partingStepReply p => exact (execPartingStepReply_event p s).mono fun _ => .of_event
  | flushReply p => exact (execFlushReply_event p s).mono fun _ => .of_event
  | refclkPeriod levels => exact execRefclkPeriod_frame levels s

theorem exec_next_frame {c : Instr} {s t : State} (h : exec c s = .next t) : Frame c s t := (exec_frame c s).of_next h

end Sys2Proof.Machine
end

section
/-! SUPPORT. What a step can make of a line record, of an entry and of a subscription, said once; and the induction that
carries a law from `exec` to `step`. -/

namespace Sys2Proof.Machine

variable {c : Instr} {s t u : State} {p : PortId}

/-! ### From a command to a step -/

/-- A law that does not read the queue of steps, kept by every command, is kept by every step. -/
theorem step_keeps {P : State → Prop} (hp : ∀ s rest, P s → P { s with pending := rest })
    (hc : ∀ c s t, P s → exec c s = .next t → P t) : ∀ s t, P s → step s = .next t → P t := by
  intro s t hs h
  unfold step at h
  split at h
  · rw [Host.Outcome.next.injEq] at h
    exact h ▸ hs
  · exact hc _ _ t (hp s _ hs) h

/-! ### Line records -/

/-- What one step can make of a line record, RESET apart. -/
inductive Line.Change (l : Line) : Line → Prop
  | same : Line.Change l l
  | claimed (p : PortId) (safeLevel : Bool) (policy : Policy) : Line.Change l (l.claimed p safeLevel policy)
  | held (owned : l.owner ≠ none) : Line.Change l { l with held := true }
  | driven (level : Bool) : Line.Change l { l with level := level }
  | returned : Line.Change l l.safeReturn

/-- Every line record is changed as one step can. -/
def LineChanges (s t : State) : Prop := ∀ k, (s.line k).Change (t.line k)

theorem LineChanges.of_eq (h : t.lines = s.lines) : LineChanges s t := by
  intro k
  rw [State.line, State.line, h]
  exact .same

theorem LineChanges.then_same (h : LineChanges s t) (h' : u.lines = t.lines) : LineChanges s u := by
  intro k
  show (s.line k).Change u.lines[k]
  rw [h']
  exact h k

theorem LineChanges.returnLines (s : State) (f : Fin 16 → Line → Bool) : LineChanges s (s.returnLines f) := by
  intro k
  rw [State.returnLines_line]
  split
  · exact .returned
  · exact .same

theorem LineChanges.applyFiring (s : State) (a : FiringAction) (ls : LineSet) : LineChanges s (s.applyFiring a ls) := by
  intro k
  rw [State.applyFiring_line]
  split
  · exact .driven _
  · exact .same

theorem State.fire_lines (s : State) (i : SlotId) (e : Entry) (late : Bool) :
    (s.fire i e late).lines = (s.applyFiring (e.action.firing s.store) e.lines).lines := by
  unfold State.fire
  dsimp only
  split
  · rfl
  · split <;> rfl

theorem LineChanges.fire (s : State) (i : SlotId) (e : Entry) (late : Bool) : LineChanges s (s.fire i e late) :=
  (LineChanges.applyFiring s _ _).then_same (s.fire_lines i e late)

theorem State.takeClaim_lineChanges (s : State) (p : PortId) (ls : LineSet) (safeLevels : LevelSet) (policy : Byte) :
    LineChanges s (s.takeClaim p ls safeLevels policy) := by
  unfold State.takeClaim
  split
  · exact .of_eq rfl
  · split
    · exact .of_eq rfl
    · split
      · exact .of_eq rfl
      · intro k
        rw [State.finish_line, State.updLines_line]
        split
        · exact .claimed _ _ _
        · exact .same

/-- A RELEASE marks lines that its sender owns (R23, R24). -/
theorem State.takeRelease_lineChanges (s : State) (p : PortId) (ls : LineSet) :
    LineChanges s (s.takeRelease p ls) := by
  unfold State.takeRelease
  split
  · exact .of_eq rfl
  · split
    · exact .of_eq rfl
    · next howns =>
      intro k
      rw [State.startRelease, State.updPort_line, State.updLines_line]
      split
      · next hk =>
        have hown := (s.ownsAll_iff p ls).1 (by simpa using howns) k hk
        exact .held (by simp [hown])
      · exact .same

theorem State.takeDrive_lineChanges (s : State) (p : PortId) (ls : LineSet) (levels : LevelSet) :
    LineChanges s (s.takeDrive p ls levels) := by
  unfold State.takeDrive
  split
  · exact .of_eq rfl
  · split
    · exact .of_eq rfl
    · intro k
      rw [State.finish_line, State.updLines_line]
      split
      · exact .driven _
      · exact .same

theorem State.create_lineChanges (s : State) (p : PortId) (i : SlotId) (pl : Plan) :
    LineChanges s (s.create p i pl) := by
  unfold State.create
  split
  · unfold State.createWaiting
    split <;> exact .of_eq rfl
  · unfold State.createTimed
    split <;> exact .of_eq rfl
  · split
    · unfold State.createTimed
      split <;> exact .of_eq rfl
    · split
      · exact .of_eq rfl
      · unfold State.createFireNow
        dsimp only
        split
        · exact (LineChanges.fire s i _ true).then_same rfl
        · split
          · exact .of_eq rfl
          · exact (LineChanges.fire s i _ true).then_same rfl

theorem State.takeSchedule_lineChanges (s : State) (p : PortId) (a : ScheduleArgs) :
    LineChanges s (s.takeSchedule p a) := by
  unfold State.takeSchedule
  split
  · exact .of_eq rfl
  · split
    · exact .of_eq rfl
    · split
      · exact .of_eq rfl
      · split
        · exact .of_eq rfl
        · split
          · exact .of_eq rfl
          · exact s.create_lineChanges p _ _

theorem State.completeRelease_lineChanges (s : State) (p : PortId) (cancelled : Nat) :
    LineChanges s (s.completeRelease p cancelled) := by
  unfold State.completeRelease
  exact (LineChanges.returnLines s _).then_same (State.updPort_lines _ _ _)

theorem State.completeOrphan_lineChanges (s : State) (p : PortId) : LineChanges s (s.completeOrphan p) := by
  unfold State.completeOrphan
  exact (LineChanges.returnLines s _).then_same (State.updPort_lines _ _ _)

/-- Every step but the assertion of RESET changes the line records so. -/
theorem exec_lineChanges (hc : c ≠ .resetAssertion) (h : exec c s = .next t) : LineChanges s t := by
  by_cases hw : c.writesLines = false
  · exact .of_eq ((exec_next_frame h).lines hw)
  suffices Yields (exec c s) (LineChanges s) from this.of_next h
  cases c with
  | claim p =>
    show Yields (execClaim p s) _
    unfold execClaim
    split
    · exact .next (s.takeClaim_lineChanges p _ _ _)
    · exact .next (.of_eq rfl)
  | release p =>
    show Yields (execRelease p s) _
    unfold execRelease
    split
    · exact .next (s.takeRelease_lineChanges p _)
    · exact .next (.of_eq rfl)
  | drive p =>
    show Yields (execDrive p s) _
    unfold execDrive
    split
    · exact .next (s.takeDrive_lineChanges p _ _)
    · exact .next (.of_eq rfl)
  | schedule p =>
    show Yields (execSchedule p s) _
    unfold execSchedule
    split
    · exact .next (s.takeSchedule_lineChanges p _)
    · exact .next (.of_eq rfl)
  | expiry i =>
    show Yields (execExpiry i s) _
    unfold execExpiry
    split
    · split
      · exact .next (.fire s i _ _)
      · exact .next (.of_eq rfl)
    · exact .next (.of_eq rfl)
  | releaseCompletion p =>
    show Yields (execReleaseCompletion p s) _
    unfold execReleaseCompletion
    split
    · next cancelled rest _ =>
      split
      · exact .next (State.completeRelease_lineChanges { s with scheduleToLines := rest } p cancelled)
      · exact .next (.of_eq rfl)
    · exact .next (.of_eq rfl)
  | orphanCompletion p =>
    show Yields (execOrphanCompletion p s) _
    unfold execOrphanCompletion
    split
    · next rest _ =>
      split
      · exact .next (State.completeOrphan_lineChanges { s with scheduleToLines := rest } p)
      · exact .next (.of_eq rfl)
    · exact .next (.of_eq rfl)
  | lineStep p =>
    show Yields (execLineStep p s) _
    unfold execLineStep
    split
    · exact .next ((LineChanges.returnLines s _).then_same (State.updWires_lines _ _ _))
    · exact .next (.of_eq rfl)
  | resetAssertion => exact absurd rfl hc
  | _ => exact absurd rfl hw

/-! ### Time by distance -/

theorem distance_add (a b : Tick) : distance a (a + b) = b.toNat := by
  simp [distance]

theorem distance_later_le (a : Tick) (offset : BitVec 24) : distance a (later a offset) ≤ Config.horizon := by
  rw [later, distance_add, BitVec.toNat_setWidth]
  have := offset.isLt
  exact (Nat.mod_le _ _).trans (by unfold Config.horizon; omega)

/-! ### Counts still to come -/

/-- A count still to come lies between 1 and m, or is UNBOUNDED. -/
def Remaining.Within (m : Nat) : Remaining → Prop
  | .counted n => 1 ≤ n ∧ n ≤ m
  | .unbounded => True

theorem Remaining.Within.takenDown {m : Nat} {r r' : Remaining} (h : r.Within m) (e : r.takenDown = some r') :
    r'.Within m := by
  cases r with
  | counted n =>
    obtain ⟨-, hm⟩ := h
    unfold Remaining.takenDown at e
    dsimp only at e
    split at e
    · cases e
    · cases e
      exact ⟨by omega, by omega⟩
  | unbounded =>
    cases e
    trivial

theorem Remaining.within_remainingOf {m : Nat} {count : BitVec 16} (h : count.toNat ≤ m) :
    (remainingOf count).Within m := by
  unfold remainingOf
  split
  · trivial
  · next h0 =>
    have hne : count.toNat ≠ 0 := fun e => h0 (BitVec.eq_of_toNat_eq (by simpa using e))
    exact ⟨by omega, h⟩

theorem countLaw_iff (s : State) : CountLaw s ↔
    (∀ i e, s.entry i = some e → e.remaining.Within 65535) ∧
    ∀ (k : Fin 8) sub, s.trigger.places[k] = some sub → sub.remaining.Within 255 := by
  refine and_congr ⟨fun h i e he => ?_, fun h i e n he hn => ?_⟩ ⟨fun h k sub hk => ?_, fun h k sub n hk hn => ?_⟩
  · cases hr : e.remaining with
    | counted n => exact h i e n he hr
    | unbounded => trivial
  · simpa [hn, Remaining.Within] using h i e he
  · cases hr : sub.remaining with
    | counted n => exact h k sub n hk hr
    | unbounded => trivial
  · simpa [hn, Remaining.Within] using h k sub hk

/-! ### The arguments of SCHEDULE -/

theorem ScheduleArgs.plan_eq_some {a : ScheduleArgs} {pl : Plan} (h : a.plan = some pl) :
    a.modeOf = some pl.mode ∧ pl.remaining = remainingOf a.count := by
  unfold ScheduleArgs.plan at h
  split at h
  · next hm _ _ _ =>
    split at h
    · cases h
    · cases h
      exact ⟨hm, rfl⟩
  · cases h

theorem ScheduleArgs.plan_within {a : ScheduleArgs} {pl : Plan} (h : a.plan = some pl) :
    pl.remaining.Within 65535 := by
  rw [(plan_eq_some h).2]
  exact Remaining.within_remainingOf (Nat.le_of_lt_succ a.count.isLt)

/-- A RELATIVE offset in range lies within the horizon (R44). -/
theorem ScheduleArgs.offset_le {a : ScheduleArgs} {offset : BitVec 32} (h : a.modeOf = some (.relative offset)) :
    offset.toNat ≤ Config.horizon := by
  unfold ScheduleArgs.modeOf at h
  split at h
  · cases hp : latePolicyOf a.areaLate <;> simp [hp] at h
  · split at h
    · split at h
      · next hr =>
        cases h
        exact hr.2
      · cases h
    · split at h
      · split at h
        · split at h <;> cases h
        · cases h
      · cases h

/-! ### Entries -/

theorem State.setSlot_entry (s : State) (i j : SlotId) (sl : Slot) :
    (s.setSlot i sl).entry j = if j = i then sl.entry else s.entry j := by
  unfold State.entry
  rw [State.setSlot_slot]
  split <;> rfl

theorem State.endEntry_entry (s : State) (i j : SlotId) :
    (s.endEntry i).entry j = if j = i then none else s.entry j := s.setSlot_entry i j _

/-- The entry of a slot after a step, and the entry or the SCHEDULE of the state before that it comes from. -/
inductive EntryFrom (s : State) (i : SlotId) : Entry → Prop
  | kept {e} (old : s.entry i = some e) : EntryFrom s i e
  | unmarked {e} (old : s.entry i = some e) : EntryFrom s i e.unmarked
  | released {e input sel offset mark} (old : s.entry i = some e) (waits : e.state = .waiting input sel offset mark) :
      EntryFrom s i { e with state := .timed (later s.schedule.now offset) }
  | fired {e remaining} (old : s.entry i = some e) (left : e.remaining.takenDown = some remaining) :
      EntryFrom s i (e.rescheduled s.store remaining (e.nextDue s.schedule.now))
  | timed {p a pl due lp} (plan : ScheduleArgs.plan a = some pl)
      (near : distance s.schedule.now due ≤ Config.horizon) : EntryFrom s i (pl.entry p (.timed due) lp)
  | waiting {p a pl input sel offset} (plan : ScheduleArgs.plan a = some pl) :
      EntryFrom s i (pl.entry p (.waiting input sel offset true) none)
  | firedNow {p a pl remaining due} (plan : ScheduleArgs.plan a = some pl)
      (left : pl.remaining.takenDown = some remaining) :
      EntryFrom s i ((pl.entry p (.timed due) (some .fireNow)).rescheduled s.store remaining
        ((pl.entry p (.timed due) (some .fireNow)).nextDue s.schedule.now))

/-- Every entry of t comes from s. -/
def EntriesFrom (s t : State) : Prop := ∀ i e, t.entry i = some e → EntryFrom s i e

theorem EntriesFrom.of_slots (h : t.schedule.slots = s.schedule.slots) : EntriesFrom s t := by
  intro i e he
  rw [State.entry, State.slot, h] at he
  exact .kept he

theorem EntriesFrom.setSlot {i : SlotId} {sl : Slot} (h : ∀ e, sl.entry = some e → EntryFrom s i e) :
    EntriesFrom s (s.setSlot i sl) := by
  intro j e he
  rw [State.setSlot_entry] at he
  split at he
  · next hj => exact hj ▸ h e he
  · exact .kept he

theorem EntriesFrom.endEntry (s : State) (i : SlotId) : EntriesFrom s (s.endEntry i) :=
  .setSlot fun _ he => by cases he

theorem EntriesFrom.then_same (h : EntriesFrom s t) (h' : u.schedule.slots = t.schedule.slots) : EntriesFrom s u := by
  intro i e he
  rw [State.entry, State.slot, h'] at he
  exact h i e he

/-- A firing ends the entry of its slot or puts the rescheduled entry there (R71, R72). -/
theorem State.fire_slots (s : State) (i : SlotId) (e : Entry) (late : Bool) :
    (s.fire i e late).schedule.slots = (s.endEntry i).schedule.slots ∨
    ∃ remaining, e.remaining.takenDown = some remaining ∧ (s.fire i e late).schedule.slots = (s.setSlot i { s.slot i with
      entry := some (e.rescheduled s.store remaining (e.nextDue s.schedule.now)) }).schedule.slots := by
  obtain ⟨lines, hd⟩ := State.applyFiring_frame s (e.action.firing s.store) e.lines
  unfold State.fire
  rw [hd]
  dsimp only
  split
  · exact .inl rfl
  · next remaining hr =>
    split
    · exact .inl rfl
    · exact .inr ⟨remaining, hr, rfl⟩

theorem EntriesFrom.fire {i : SlotId} {e : Entry} (late : Bool)
    (h : ∀ remaining, e.remaining.takenDown = some remaining →
      EntryFrom s i (e.rescheduled s.store remaining (e.nextDue s.schedule.now))) :
    EntriesFrom s (s.fire i e late) := by
  obtain hs | ⟨remaining, hr, hs⟩ := s.fire_slots i e late
  · exact (EntriesFrom.endEntry s i).then_same hs
  · refine (EntriesFrom.setSlot fun e' he => ?_).then_same hs
    cases he
    exact h remaining hr

theorem State.createTimed_entriesFrom {a : ScheduleArgs} {pl : Plan} {due : Tick} (hp : a.plan = some pl)
    (hd : distance s.schedule.now due ≤ Config.horizon) (i : SlotId) (lp : Option LatePolicy) :
    EntriesFrom s (s.createTimed p i pl due lp) := by
  unfold State.createTimed
  split
  · exact .of_slots rfl
  · refine (EntriesFrom.setSlot fun e he => ?_).then_same rfl
    cases he
    exact .timed hp hd

theorem State.create_entriesFrom {a : ScheduleArgs} {pl : Plan} (hp : a.plan = some pl) (i : SlotId) :
    EntriesFrom s (s.create p i pl) := by
  unfold State.create
  split
  · unfold State.createWaiting
    split
    · exact .of_slots rfl
    · refine (EntriesFrom.setSlot fun e he => ?_).then_same rfl
      cases he
      exact .waiting hp
  · next offset hm =>
    refine s.createTimed_entriesFrom hp ?_ i _
    rw [distance_add]
    exact ScheduleArgs.offset_le ((ScheduleArgs.plan_eq_some hp).1.trans (congrArg some hm))
  · split
    · next hf => exact s.createTimed_entriesFrom hp (of_decide_eq_true hf).2 i _
    · split
      · exact .of_slots rfl
      · have hfire := EntriesFrom.fire (s := s) (i := i) (e := pl.entry p (.timed s.schedule.now) (some .fireNow)) true
          fun remaining hr => .firedNow hp hr
        unfold State.createFireNow
        dsimp only
        split
        · exact hfire.then_same rfl
        · split
          · exact .of_slots rfl
          · exact hfire.then_same rfl

theorem State.takeSchedule_entriesFrom (s : State) (p : PortId) (a : ScheduleArgs) :
    EntriesFrom s (s.takeSchedule p a) := by
  unfold State.takeSchedule
  split
  · exact .of_slots rfl
  · next hp =>
    split
    · exact .of_slots rfl
    · split
      · exact .of_slots rfl
      · split
        · exact .of_slots rfl
        · split
          · exact .of_slots rfl
          · exact s.create_entriesFrom hp _

theorem EntriesFrom.cancelEntries (s : State) (p : PortId) (f : Entry → Bool) (cause : Option CancelCause) :
    EntriesFrom s (s.cancelEntries p f cause) := by
  obtain ⟨ports, h⟩ := s.cancelEntries_frame p f cause
  intro i e he
  rw [h] at he
  simp only [State.entry, State.slot, Fin.getElem_fin, Vector.getElem_map, cancelSlot] at he
  split at he
  · cases he
  · exact .kept he

/-- The entries of s with some WAITING ones released at the capture tick d: what the turns of the slots in a release
request make of them (R117). -/
def ReleasedFrom (d : Tick) (s t : State) : Prop :=
  ∀ i e, t.entry i = some e → s.entry i = some e ∨ ∃ e₀ input sel offset mark, s.entry i = some e₀ ∧
    e₀.state = .waiting input sel offset mark ∧ e = { e₀ with state := .timed (later d offset) }

theorem Entry.matchedBy_eq_some {e : Entry} {r : ReleaseRequest} {offset : BitVec 24}
    (h : e.matchedBy r = some offset) : ∃ input sel mark, e.state = .waiting input sel offset mark := by
  unfold Entry.matchedBy at h
  split at h
  · next hs =>
    split at h
    · cases h
      exact ⟨_, _, _, hs⟩
    · cases h
  · cases h

theorem ReleasedFrom.releaseSlot {r : ReleaseRequest} (h : ReleasedFrom r.tick s t) (i : SlotId) :
    ReleasedFrom r.tick s (State.releaseSlot r t i) := by
  unfold State.releaseSlot
  dsimp only
  split
  · exact h
  · next e he =>
    split
    · exact h
    · next offset hm =>
      obtain ⟨input, sel, mark, hw⟩ := Entry.matchedBy_eq_some hm
      split
      · intro j e' he'
        rw [State.postSchedule_entry, State.endEntry_entry] at he'
        split at he'
        · cases he'
        · exact h j e' he'
      · intro j e' he'
        rw [State.place, State.setSlot_entry] at he'
        split at he'
        · next hj =>
          subst hj
          rw [Option.some.injEq] at he'
          obtain hold | ⟨e₀, _, _, _, _, _, _, rfl⟩ := h j e he
          · exact .inr ⟨e, input, sel, offset, mark, hold, hw, he'.symm⟩
          · cases hw
        · exact h j e' he'

theorem ReleasedFrom.foldl {r : ReleaseRequest} (h : ReleasedFrom r.tick s t) (l : List SlotId) :
    ReleasedFrom r.tick s (l.foldl (State.releaseSlot r) t) := by
  induction l generalizing t with
  | nil => exact h
  | cons i l ih => exact ih (h.releaseSlot i)

theorem execReleaseRequest_entriesFrom (input : InputId) (s : State) :
    Yields (execReleaseRequest input s) (EntriesFrom s) := by
  unfold execReleaseRequest
  split
  · next r hr =>
    have hfound : r.input = input ∧ r.tick = s.schedule.now := by simpa using List.find?_some hr
    have hnow := hfound.2
    have hstart : ReleasedFrom r.tick s { s with releaseRequests := s.releaseRequests.erase r } :=
      fun _ _ he => .inl he
    refine .next fun i e he => ?_
    obtain hold | ⟨e₀, _, _, _, _, hold, hw, rfl⟩ := hstart.foldl _ i e he
    · exact .kept hold
    · rw [hnow]
      exact .released hold hw
  · exact .next (.of_slots rfl)

theorem ScheduleUnit.tick_entry (s : State) (rest : List Tick) (d : Tick) (i : SlotId) :
    State.entry { s with ticksToSchedule := rest, schedule := s.schedule.tick d } i =
      (s.entry i).map Entry.unmarked := by
  simp [State.entry, State.slot, ScheduleUnit.tick]

/-- Every entry after a step, the assertion of RESET included, comes from the state before. -/
theorem exec_entriesFrom (h : exec c s = .next t) : EntriesFrom s t := by
  by_cases hw : c.writesSlots = false
  · exact .of_slots ((exec_next_frame h).slots hw)
  suffices Yields (exec c s) (EntriesFrom s) from this.of_next h
  cases c with
  | schedule p =>
    show Yields (execSchedule p s) _
    unfold execSchedule
    split
    · exact .next (s.takeSchedule_entriesFrom p _)
    · exact .next (.of_slots rfl)
  | cancel p =>
    show Yields (execCancel p s) _
    unfold execCancel
    split
    · refine .next ?_
      unfold State.takeCancel
      split
      · exact .of_slots rfl
      · exact (EntriesFrom.endEntry s _).then_same rfl
    · exact .next (.of_slots rfl)
  | expiry i =>
    show Yields (execExpiry i s) _
    unfold execExpiry
    split
    · next e he =>
      split
      · exact .next (.fire false fun _ hr => .fired ((s.fallenDue_iff i e).1 he).1 hr)
      · exact .next (.of_slots rfl)
    · exact .next (.of_slots rfl)
  | scheduleUnitTick =>
    show Yields (execScheduleUnitTick s) _
    unfold execScheduleUnitTick
    split
    · split
      · refine .next fun i e he => ?_
        rw [ScheduleUnit.tick_entry, Option.map_eq_some_iff] at he
        obtain ⟨e₀, hold, rfl⟩ := he
        exact .unmarked hold
      · exact .next (.of_slots rfl)
    · exact .next (.of_slots rfl)
  | releaseRequest input => exact execReleaseRequest_entriesFrom input s
  | releaseCancellationRequest p =>
    show Yields (execReleaseCancellationRequest p s) _
    unfold execReleaseCancellationRequest
    split
    · exact .next ((EntriesFrom.cancelEntries s p _ _).then_same rfl)
    · exact .next (.of_slots rfl)
  | orphanRequest p =>
    show Yields (execOrphanRequest p s) _
    unfold execOrphanRequest
    split
    · exact .next ((EntriesFrom.cancelEntries s p _ _).then_same rfl)
    · exact .next (.of_slots rfl)
  | partingRequest p =>
    show Yields (execPartingRequest p s) _
    unfold execPartingRequest
    split
    · exact .next ((EntriesFrom.cancelEntries s p _ _).then_same rfl)
    · exact .next (.of_slots rfl)
  | resetAssertion =>
    refine .next fun i e he => ?_
    simp at he
  | _ => exact absurd rfl hw

/-! ### Subscriptions -/

/-- Every subscription of the trigger unit has a count in range (R108). -/
def PlacesOk (s : State) : Prop :=
  ∀ (k : Fin 8) sub, s.trigger.places[k] = some sub → sub.remaining.Within 255

theorem PlacesOk.of_eq (h : PlacesOk s) (e : t.trigger.places = s.trigger.places) : PlacesOk t := by
  intro k sub hk
  rw [e] at hk
  exact h k sub hk

theorem PlacesOk.setReleaseRequests (h : PlacesOk s) (l : List ReleaseRequest) :
    PlacesOk { s with releaseRequests := l } := h.of_eq rfl

/-- One place changes, and what it then holds is in range. -/
theorem PlacesOk.set (h : PlacesOk s) {n : Fin 8} {o : Option Subscription}
    (ho : ∀ sub, o = some sub → sub.remaining.Within 255)
    (e : t.trigger.places = s.trigger.places.set n o) : PlacesOk t := by
  intro k sub hk
  rw [e] at hk
  by_cases hn : n.val = k.val
  · simp only [Fin.getElem_fin, hn, Vector.getElem_set_self] at hk
    exact ho sub hk
  · simp only [Fin.getElem_fin, Vector.getElem_set_ne _ _ hn] at hk
    exact h k sub hk

theorem Subscription.counted_within {sub sub' : Subscription} (h : sub.remaining.Within 255)
    (e : sub.counted = some sub') : sub'.remaining.Within 255 := by
  unfold Subscription.counted at e
  split at e
  · cases e
    exact h
  · next n hn =>
    split at e
    · cases e
    · cases e
      rw [hn] at h
      obtain ⟨-, hm⟩ := h
      exact ⟨by omega, by omega⟩

theorem PlacesOk.notifyPlace (h : PlacesOk s) (input : InputId) (d : Direction) (t : Tick) (k : Fin 8) :
    PlacesOk (State.notifyPlace input d t s k) := by
  unfold State.notifyPlace
  split
  · exact h
  · next sub hsub =>
    split
    · exact h.set (fun _ e => Subscription.counted_within (h k sub hsub) e) rfl
    · exact h

theorem PlacesOk.foldl {α : Type} {f : State → α → State} (hf : ∀ u a, PlacesOk u → PlacesOk (f u a)) (l : List α)
    (h : PlacesOk s) : PlacesOk (l.foldl f s) := by
  induction l generalizing s with
  | nil => exact h
  | cons a l ih => exact ih (hf s a h)

theorem PlacesOk.inputTick (h : PlacesOk s) (levels : BitVec 4) (t : Tick) (k : InputId) :
    PlacesOk (State.inputTick levels t s k) := by
  have hsampled : PlacesOk { s with trigger := { s.trigger with
      inputs := s.trigger.inputs.set k (s.trigger.inputs[k].sample (levels.getLsbD k.val) t) } } := h.of_eq rfl
  unfold State.inputTick
  dsimp only
  split
  · exact hsampled
  · exact PlacesOk.setReleaseRequests (PlacesOk.foldl (fun u n hu => hu.notifyPlace k _ t n) _ hsampled) _

theorem PlacesOk.subscribe (h : PlacesOk s) (p : PortId) (input selection : Byte) (count : BitVec 16) :
    PlacesOk (s.takeSubscribe p input selection count) := by
  unfold State.takeSubscribe
  split
  · split
    · exact h.of_eq rfl
    · next hcount =>
      split
      · exact h.of_eq rfl
      · refine h.set (fun sub e => ?_) rfl
        cases e
        exact Remaining.within_remainingOf (by omega)
  · exact h.of_eq rfl

theorem PlacesOk.unsubscribe (h : PlacesOk s) (p : PortId) (number : Byte) :
    PlacesOk (s.takeUnsubscribe p number) := by
  unfold State.takeUnsubscribe
  split
  · exact h.of_eq rfl
  · split
    · exact h.of_eq rfl
    · split
      · exact h.of_eq rfl
      · exact h.set (fun _ e => by cases e) rfl

theorem PlacesOk.removeAllOf (h : PlacesOk s) (p : PortId) : PlacesOk { s with trigger := s.trigger.removeAllOf p } := by
  intro k sub hk
  simp only [TriggerUnit.removeAllOf, Fin.getElem_fin, Vector.getElem_map] at hk
  split at hk
  · cases hk
  · exact h k sub hk

theorem exec_placesOk (h : PlacesOk s) (he : exec c s = .next t) : PlacesOk t := by
  by_cases hw : c.writesPlaces = false
  · exact h.of_eq ((exec_next_frame he).places hw)
  suffices Yields (exec c s) PlacesOk from this.of_next he
  cases c with
  | triggerUnitTick =>
    show Yields (execTriggerUnitTick s) _
    unfold execTriggerUnitTick
    split
    · next d levels rest _ =>
      have hpop : PlacesOk { s with ticksToTrigger := rest } := h.of_eq rfl
      exact .next ((PlacesOk.foldl (fun u k hu => hu.inputTick levels d k) _ hpop).of_eq rfl)
    · exact .next h
  | subscribe p =>
    show Yields (execSubscribe p s) _
    unfold execSubscribe
    split
    · exact .next (h.subscribe p _ _ _)
    · exact .next h
  | unsubscribe p =>
    show Yields (execUnsubscribe p s) _
    unfold execUnsubscribe
    split
    · exact .next (h.unsubscribe p _)
    · exact .next h
  | subscriptionStep p =>
    show Yields (execSubscriptionStep p s) _
    unfold execSubscriptionStep
    split
    · exact .next ((h.removeAllOf p).of_eq rfl)
    · exact .next h
  | resetAssertion =>
    exact .next fun k sub hk => absurd ((State.reset_places k).symm.trans hk) (by simp)
  | _ => exact absurd rfl hw

end Sys2Proof.Machine
end

section
/-! SUPPORT. The laws of the state, each kept by every command: the line records, the pattern store, the counts, the ticks
under way, the clock and the due ticks, the timebase, RESET and the lapse counts. -/

namespace Sys2Proof.Machine

variable {c : Instr} {s t u : State} {p : PortId}

/-! ### The line records -/

/-- R13 for one line record: `LineLaw` says it of every line. -/
def Line.Ok (l : Line) : Prop := (l.owner = none ↔ l.policy = none) ∧ (l.held = true → l.owner ≠ none)

theorem lineLaw_iff (s : State) : LineLaw s ↔ ∀ k, (s.line k).Ok := Iff.rfl

theorem Line.Change.keeps_ok {l l' : Line} (h : l.Change l') (hl : l.Ok) : l'.Ok := by
  obtain ⟨hpolicy, hheld⟩ := hl
  cases h with
  | same => exact ⟨hpolicy, hheld⟩
  | claimed p safeLevel policy => exact ⟨by simp [Line.claimed], fun _ => by simp [Line.claimed]⟩
  | held owned => exact ⟨hpolicy, fun _ => owned⟩
  | driven level => exact ⟨hpolicy, hheld⟩
  | returned => exact ⟨by simp [Line.safeReturn], fun e => by simp [Line.safeReturn] at e⟩

theorem LineLaw.of_reset (h : ∀ k, s.line k = Line.reset) : LineLaw s := by
  intro k
  simp [h k, Line.reset]

theorem exec_keeps_lineLaw (h : LineLaw s) (he : exec c s = .next t) : LineLaw t := by
  by_cases hc : c = .resetAssertion
  · subst hc
    cases he
    exact .of_reset s.assertReset_line
  · exact (lineLaw_iff t).2 fun k => (exec_lineChanges hc he k).keeps_ok ((lineLaw_iff s).1 h k)

/-! ### The pattern store -/

/-- Segments that stand as they stood or were given back keep the law of the store. -/
theorem StoreLaw.of_subset (h : StoreLaw s)
    (e : ∀ (k : Fin 8) g, t.store.segments[k] = some g → s.store.segments[k] = some g) : StoreLaw t :=
  ⟨fun k g hk => h.1 k g (e k g hk), fun j k g g' hjk hj hk => h.2 j k g g' hjk (e j g hj) (e k g' hk)⟩

theorem StoreLaw.of_eq (h : StoreLaw s) (e : t.store.segments = s.store.segments) : StoreLaw t :=
  h.of_subset fun k g hk => by rwa [e] at hk

/-- A segment placed where it fits keeps the law of the store (R92). -/
theorem StoreLaw.place (h : StoreLaw s) {n b : Nat} (k : Fin 8) (p : PortId) (hn : 1 ≤ n) (hf : s.store.fits n b = true)
    (e : t.store.segments = s.store.segments.set k (some ⟨p, b, n⟩)) : StoreLaw t := by
  obtain ⟨hin, hdisjoint⟩ := (s.store.fits_iff n b).1 hf
  have hget (j : Fin 8) (g : Segment) (hj : t.store.segments[j] = some g) :
      (j = k ∧ g = ⟨p, b, n⟩) ∨ (j ≠ k ∧ s.store.segments[j] = some g) := by
    rw [e] at hj
    by_cases hk : k.val = j.val
    · simp only [Fin.getElem_fin, hk, Vector.getElem_set_self] at hj
      exact .inl ⟨Fin.ext hk.symm, by cases hj; rfl⟩
    · simp only [Fin.getElem_fin, Vector.getElem_set_ne _ _ hk] at hj
      exact .inr ⟨fun e => hk (congrArg Fin.val e.symm), hj⟩
  refine ⟨fun j g hj => ?_, fun i j g g' hij hi hj => ?_⟩
  · obtain ⟨-, rfl⟩ | ⟨-, hs⟩ := hget j g hj
    · exact ⟨hn, hin⟩
    · exact h.1 j g hs
  · obtain ⟨rfl, rfl⟩ | ⟨-, hs⟩ := hget i g hi
    · obtain ⟨rfl, -⟩ | ⟨-, hs'⟩ := hget j g' hj
      · exact absurd rfl hij
      · exact hdisjoint j g' hs'
    · obtain ⟨-, rfl⟩ | ⟨-, hs'⟩ := hget j g' hj
      · exact (hdisjoint i g hs).symm
      · exact h.2 i j g g' hij hs hs'

theorem StoreLaw.alloc (h : StoreLaw s) (p : PortId) (length : BitVec 16) : StoreLaw (s.takeAlloc p length) := by
  unfold State.takeAlloc
  dsimp only
  split
  · exact h.of_eq rfl
  · split
    · exact h.of_eq rfl
    · split
      · exact h.of_eq rfl
      · next k _ _ b hb => exact h.place k p (by omega) (List.find?_some hb) rfl

theorem StoreLaw.free (h : StoreLaw s) (p : PortId) (segment : Byte) : StoreLaw (s.takeFree p segment) := by
  unfold State.takeFree
  split
  · exact h.of_eq rfl
  · next k _ =>
    split
    · exact h.of_eq rfl
    · split
      · exact h.of_eq rfl
      · refine h.of_subset fun j g hj => ?_
        rw [State.finish_store] at hj
        by_cases hk : k.val = j.val
        · simp [hk] at hj
        · simpa [Vector.getElem_set_ne _ _ hk] using hj

theorem StoreLaw.freeAllOf (h : StoreLaw s) (p : PortId) (n : Nat) :
    StoreLaw ({ s with store := s.store.freeAllOf p }.replyParting p n) := by
  refine h.of_subset fun k g hk => ?_
  rw [State.replyParting, State.updWires_store] at hk
  simp only [PatternStore.freeAllOf, Fin.getElem_fin, Vector.getElem_map] at hk
  split at hk
  · cases hk
  · exact hk

theorem exec_keeps_storeLaw (h : StoreLaw s) (he : exec c s = .next t) : StoreLaw t := by
  by_cases hw : c.writesSegments = false
  · exact h.of_eq ((exec_next_frame he).segments hw)
  suffices Yields (exec c s) StoreLaw from this.of_next he
  cases c with
  | alloc p =>
    show Yields (execAlloc p s) _
    unfold execAlloc
    split
    · exact .next (h.alloc p _)
    · exact .next h
  | free p =>
    show Yields (execFree p s) _
    unfold execFree
    split
    · exact .next (h.free p _)
    · exact .next h
  | freeStep p =>
    show Yields (execFreeStep p s) _
    unfold execFreeStep
    split
    · exact .next (h.freeAllOf p _)
    · exact .next h
  | resetAssertion =>
    exact .next (h.of_subset fun k g hk => absurd ((State.reset_segments k).symm.trans hk) (by simp))
  | _ => exact absurd rfl hw

/-! ### The counts still to come -/

@[simp] theorem Entry.unmarked_remaining (e : Entry) : e.unmarked.remaining = e.remaining := by
  unfold Entry.unmarked
  split <;> rfl

theorem EntryFrom.within {i : SlotId} {e : Entry} (h : EntryFrom s i e)
    (hs : ∀ e, s.entry i = some e → e.remaining.Within 65535) : e.remaining.Within 65535 := by
  cases h with
  | kept old => exact hs _ old
  | unmarked old => simpa using hs _ old
  | released old waits => exact (hs _ old :)
  | fired old left => exact (hs _ old).takenDown left
  | timed plan near => exact ScheduleArgs.plan_within plan
  | waiting plan => exact ScheduleArgs.plan_within plan
  | firedNow plan left => exact (ScheduleArgs.plan_within plan).takenDown left

theorem exec_keeps_countLaw (h : CountLaw s) (he : exec c s = .next t) : CountLaw t := by
  obtain ⟨hentries, hplaces⟩ := (countLaw_iff s).1 h
  exact (countLaw_iff t).2 ⟨fun i e hi => (exec_entriesFrom he i e hi).within (hentries i), exec_placesOk hplaces he⟩

/-! ### The ticks under way -/

/-- The end of a list that holds at most the value v holds at most v. -/
theorem nil_or_singleton_of_suffix {α : Type} {l m : List α} {P : α → Prop} (h : l <:+ m)
    (hm : m = [] ∨ ∃ v, m = [v] ∧ P v) : l = [] ∨ ∃ v, l = [v] ∧ P v := by
  obtain rfl | ⟨v, rfl, hv⟩ := hm
  · exact .inl (List.suffix_nil.1 h)
  · obtain rfl | h := List.suffix_cons_iff.1 h
    · exact .inr ⟨v, rfl, hv⟩
    · exact .inl (List.suffix_nil.1 h)

theorem tickLaw_iff (s : State) : TickLaw s ↔
    (s.ticksToSchedule = [] ∨ ∃ v, s.ticksToSchedule = [v] ∧ v = s.timebase.value) ∧
    (s.ticksToTrigger = [] ∨ ∃ v, s.ticksToTrigger = [v] ∧ v.1 = s.timebase.value) ∧
    ∀ p, (s.port p).wires.ticks = [] ∨ ∃ v, (s.port p).wires.ticks = [v] ∧ v = s.timebase.value := by
  have htrigger : (∃ levels, s.ticksToTrigger = [(s.timebase.value, levels)]) ↔
      ∃ v, s.ticksToTrigger = [v] ∧ v.1 = s.timebase.value :=
    ⟨fun ⟨levels, h⟩ => ⟨_, h, rfl⟩, fun ⟨⟨v, levels⟩, h, e⟩ => ⟨levels, by rw [h, ← e]⟩⟩
  simp only [TickLaw, htrigger, exists_eq_right]

theorem TickLaw.deliverTick (h : TickSettled s) (levels : BitVec 4) : TickLaw (s.deliverTick levels) := by
  refine ⟨.inr ?_, .inr ⟨levels, ?_⟩, fun p => .inr ?_⟩
  · simp [State.deliverTick, h.schedule]
  · simp [State.deliverTick, h.trigger]
  · rw [State.deliverTick_port, h.sessions p]
    rfl

theorem TickLaw.makeTick (h : TickLaw s) (levels : BitVec 4) : TickLaw (s.makeTick levels) := by
  unfold State.makeTick
  split
  · next hs => exact .deliverTick ((State.tickSettled_iff s).1 hs) levels
  · exact h

theorem exec_keeps_tickLaw (h : TickLaw s) (he : exec c s = .next t) : TickLaw t := by
  by_cases hw : c.movesTime = false
  · have hframe := exec_next_frame he
    obtain ⟨hschedule, htrigger, hports⟩ := hframe.ticks hw
    obtain ⟨hs, ht, hp⟩ := (tickLaw_iff s).1 h
    rw [tickLaw_iff, hframe.value hw]
    exact ⟨nil_or_singleton_of_suffix hschedule hs, nil_or_singleton_of_suffix htrigger ht,
      fun p => nil_or_singleton_of_suffix (hports p) (hp p)⟩
  suffices Yields (exec c s) TickLaw from this.of_next he
  cases c with
  | tick levels =>
    show Yields (execTick levels s) _
    unfold execTick
    split
    · exact .next h
    · exact .next (h.makeTick levels)
  | refclkPeriod levels =>
    show Yields (execRefclkPeriod levels s) _
    unfold execRefclkPeriod State.refclk
    split
    · exact .next h
    · split
      · exact .next (h.makeTick levels)
      · exact .next h
  | resetAssertion => exact .next ⟨.inl rfl, .inl rfl, fun p => .inl (by rw [State.assertReset_port]; rfl)⟩
  | _ => exact absurd rfl hw

/-! ### The clock of the schedule unit and the due ticks -/

theorem Instr.not_moves_of_not_movesClock (h : c.movesClock = false) : c.movesNow = false ∧ c.movesTime = false := by
  cases c <;> simp_all [Instr.movesClock, Instr.movesNow, Instr.movesTime]

/-- What the tick at the schedule unit does: it waits, or the work of now is done and now becomes the next tick (R64). -/
theorem execScheduleUnitTick_cases (s : State) : execScheduleUnitTick s = .next s ∨
    ∃ d rest, s.ticksToSchedule = d :: rest ∧ WorkDone s ∧
      execScheduleUnitTick s = .next { s with ticksToSchedule := rest, schedule := s.schedule.tick d } := by
  unfold execScheduleUnitTick
  split
  · next d rest hticks =>
    split
    · next hdone => exact .inr ⟨d, rest, hticks, (State.tickWorkDone_iff s).1 hdone, rfl⟩
    · exact .inl rfl
  · exact .inl rfl

/-- The first tick under way to the schedule unit follows now. -/
theorem ClockLaw.head {d : Tick} {rest : List Tick} (h : ClockLaw s) (hticks : s.ticksToSchedule = d :: rest) :
    d = s.schedule.now + 1 := by
  have h0 := h.1 0 (by simp [hticks])
  simpa [hticks] using h0

theorem ClockLaw.scheduleUnitTick {d : Tick} {rest : List Tick} (h : ClockLaw s)
    (hticks : s.ticksToSchedule = d :: rest) :
    ClockLaw { s with ticksToSchedule := rest, schedule := s.schedule.tick d } := by
  have hadd (n : Nat) : d + BitVec.ofNat 32 n = s.schedule.now + BitVec.ofNat 32 (n + 1) := by
    rw [h.head hticks, BitVec.ofNat_add n 1]
    ac_rfl
  obtain ⟨hget, hvalue⟩ := h
  refine ⟨fun n hn => ?_, ?_⟩
  · have hn' : n + 1 < s.ticksToSchedule.length := by simpa [hticks] using hn
    have hnext := hget (n + 1) hn'
    simp only [hticks, List.getElem_cons_succ] at hnext
    exact hnext.trans (hadd (n + 1)).symm
  · rw [hticks, List.length_cons] at hvalue
    exact hvalue.trans (hadd rest.length).symm

theorem ClockLaw.deliverTick (h : ClockLaw s) (levels : BitVec 4) : ClockLaw (s.deliverTick levels) := by
  obtain ⟨hget, hvalue⟩ := h
  have hnew : s.timebase.value + 1 = s.schedule.now + BitVec.ofNat 32 (s.ticksToSchedule.length + 1) := by
    rw [hvalue, BitVec.ofNat_add, BitVec.add_assoc]
    rfl
  have hall (n : Nat) (hn : n < (s.ticksToSchedule ++ [s.timebase.value + 1]).length) :
      (s.ticksToSchedule ++ [s.timebase.value + 1])[n] = s.schedule.now + BitVec.ofNat 32 (n + 1) := by
    rw [List.getElem_append]
    split
    · next hlt => exact hget n hlt
    · have heq : n = s.ticksToSchedule.length := by simp at hn; omega
      rw [List.getElem_singleton, heq]
      exact hnew
  refine ⟨hall, ?_⟩
  show s.timebase.value + 1 = s.schedule.now + BitVec.ofNat 32 (s.ticksToSchedule ++ [s.timebase.value + 1]).length
  rw [List.length_append]
  exact hnew

theorem ClockLaw.makeTick (h : ClockLaw s) (levels : BitVec 4) : ClockLaw (s.makeTick levels) := by
  unfold State.makeTick
  split
  · exact h.deliverTick levels
  · exact h

theorem exec_keeps_clockLaw (h : ClockLaw s) (he : exec c s = .next t) : ClockLaw t := by
  by_cases hw : c.movesClock = false
  · have hframe := exec_next_frame he
    obtain ⟨hnow, htime⟩ := Instr.not_moves_of_not_movesClock hw
    unfold ClockLaw at h ⊢
    simpa only [hframe.now hnow, hframe.toSchedule hw, hframe.value htime] using h
  suffices Yields (exec c s) ClockLaw from this.of_next he
  cases c with
  | scheduleUnitTick =>
    obtain hwait | ⟨d, rest, hticks, -, hnext⟩ := execScheduleUnitTick_cases s
    · exact ⟨s, hwait, h⟩
    · exact ⟨_, hnext, h.scheduleUnitTick hticks⟩
  | tick levels =>
    show Yields (execTick levels s) _
    unfold execTick
    split
    · exact .next h
    · exact .next (h.makeTick levels)
  | refclkPeriod levels =>
    show Yields (execRefclkPeriod levels s) _
    unfold execRefclkPeriod State.refclk
    split
    · exact .next h
    · split
      · exact .next (h.makeTick levels)
      · exact .next h
  | resetAssertion => exact .next ⟨fun n hn => absurd hn (Nat.not_lt_zero n), rfl⟩
  | _ => exact absurd rfl hw

/-- A due tick other than now is one tick nearer at the next tick. -/
theorem distance_succ_le {now due : Tick} (hne : due ≠ now) : distance (now + 1) due ≤ distance now due := by
  unfold distance
  bv_omega

theorem Entry.unmarked_timed {e : Entry} {due : Tick} (h : e.unmarked.state = .timed due) : e.state = .timed due := by
  unfold Entry.unmarked at h
  split at h
  · cases h
  · exact h

/-- Every due tick lies within the horizon of the now before the step. -/
theorem EntryFrom.due_le {i : SlotId} {e : Entry} {due : Tick} (h : EntryFrom s i e) (hs : DueLaw s)
    (hd : e.state = .timed due) : distance s.schedule.now due ≤ Config.horizon := by
  cases h with
  | kept old => exact hs i _ due old hd
  | unmarked old => exact hs i _ due old (Entry.unmarked_timed hd)
  | released old waits =>
    cases hd
    exact distance_later_le _ _
  | fired old left =>
    cases hd
    exact distance_later_le _ _
  | timed plan near =>
    cases hd
    exact near
  | waiting plan => cases hd
  | firedNow plan left =>
    cases hd
    exact distance_later_le _ _

theorem DueLaw.scheduleUnitTick {d : Tick} {rest : List Tick} (h : DueLaw s) (hd : d = s.schedule.now + 1)
    (hdone : WorkDone s) : DueLaw { s with ticksToSchedule := rest, schedule := s.schedule.tick d } := by
  intro i e due he hdue
  rw [ScheduleUnit.tick_entry, Option.map_eq_some_iff] at he
  obtain ⟨e₀, hold, rfl⟩ := he
  have hdue₀ := Entry.unmarked_timed hdue
  have hne : due ≠ s.schedule.now := fun e => hdone.due i e₀ hold (e ▸ hdue₀)
  show distance d due ≤ _
  exact (hd ▸ distance_succ_le hne).trans (h i e₀ due hold hdue₀)

theorem exec_keeps_dueLaw (hclock : ClockLaw s) (h : DueLaw s) (he : exec c s = .next t) : DueLaw t := by
  by_cases hc : c = .scheduleUnitTick
  · subst hc
    suffices Yields (execScheduleUnitTick s) DueLaw from this.of_next he
    obtain hwait | ⟨d, rest, hticks, hdone, hnext⟩ := execScheduleUnitTick_cases s
    · exact ⟨s, hwait, h⟩
    · exact ⟨_, hnext, h.scheduleUnitTick (hclock.head hticks) hdone⟩
  by_cases hr : c = .resetAssertion
  · subst hr
    cases he
    intro i e due hi
    simp at hi
  have hnow : t.schedule.now = s.schedule.now := (exec_next_frame he).now (by cases c <;> simp_all [Instr.movesNow])
  intro i e due hi hdue
  rw [hnow]
  exact (exec_entriesFrom he i e hi).due_le h hdue

end Sys2Proof.Machine
end

section
/-! SUPPORT. The timebase in its ranges, the part while RESET is asserted, and the lapse counts. -/

namespace Sys2Proof.Machine

variable {c : Instr} {s t u : State} {p : PortId}

/-! ### The ranges of the timebase -/

theorem TimebaseLaw.of_eq (h : TimebaseLaw s) (e : t.timebase = s.timebase) : TimebaseLaw t := by
  unfold TimebaseLaw at h ⊢
  rwa [e]

theorem TimebaseLaw.of_reset (e : s.timebase = Timebase.reset) : TimebaseLaw s := by
  unfold TimebaseLaw
  rw [e]
  decide

theorem TimebaseLaw.makeTick (h : TimebaseLaw s) (levels : BitVec 4) : TimebaseLaw (s.makeTick levels) := by
  unfold State.makeTick
  split
  · obtain ⟨-, -, hlow, hhigh⟩ := h
    exact ⟨hlow, hhigh, hlow, hhigh⟩
  · exact h

/-- A REFCLK period that does not end the interval leaves the count below its length (R2). -/
theorem TimebaseLaw.refclk (h : TimebaseLaw s) (levels : BitVec 4) : TimebaseLaw (s.refclk levels) := by
  unfold State.refclk
  split
  · exact h.makeTick levels
  · next hends =>
    obtain ⟨-, hlength, hprescale⟩ := h
    have hbelow : s.timebase.intervalCount + 1 < s.timebase.intervalLength := by
      simpa [Timebase.endsInterval] using hends
    exact ⟨hbelow, hlength, hprescale⟩

theorem TimebaseLaw.prescale (h : TimebaseLaw s) (p : PortId) (value : BitVec 24) :
    TimebaseLaw (s.takePrescale p value) := by
  unfold State.takePrescale
  split
  · exact h.of_eq rfl
  · next hrange =>
    split
    · exact h.of_eq rfl
    · obtain ⟨hcount, hlength, -⟩ := h
      exact ⟨hcount, hlength, by dsimp; omega, by dsimp; omega⟩

theorem exec_keeps_timebaseLaw (h : TimebaseLaw s) (he : exec c s = .next t) : TimebaseLaw t := by
  by_cases hw : c.writesTimebase = false
  · exact h.of_eq ((exec_next_frame he).timebase hw)
  suffices Yields (exec c s) TimebaseLaw from this.of_next he
  cases c with
  | prescale p =>
    show Yields (execPrescale p s) _
    unfold execPrescale
    split
    · exact .next (h.prescale p _)
    · exact .next h
  | tick levels =>
    show Yields (execTick levels s) _
    unfold execTick
    split
    · exact .next h
    · exact .next (h.makeTick levels)
  | refclkPeriod levels =>
    show Yields (execRefclkPeriod levels s) _
    unfold execRefclkPeriod
    split
    · exact .next h
    · exact .next (h.refclk levels)
  | resetAssertion => exact .next (.of_reset rfl)
  | _ => exact absurd rfl hw

/-! ### The values while RESET is asserted -/

/-- The port is as the assertion of RESET leaves it, whatever its pins. -/
def Port.Blank (pt : Port) : Prop := pt = Port.reset pt.link.linkp pt.link.sel .detached

theorem Port.blank_reset (linkp sel : Bool) : (Port.reset linkp sel .detached).Blank := rfl

theorem State.eq_assertReset_iff (s : State) :
    s = s.assertReset ↔ s = { s.assertReset with ports := s.ports } ∧ ∀ p, (s.port p).Blank := by
  have hports : s.ports = s.assertReset.ports ↔ ∀ p, (s.port p).Blank := by
    refine ⟨fun h p => ?_, fun h => Vector.ext fun i hi => ?_⟩
    · have hp : s.port p = s.assertReset.port p := congrArg (fun v : Vector Port 4 => v[p]) h
      exact hp.trans (s.assertReset_port p)
    · exact (h ⟨i, hi⟩).trans (s.assertReset_port ⟨i, hi⟩).symm
  constructor
  · intro h
    have hp := congrArg State.ports h
    exact ⟨by rw [hp]; exact h, hports.1 hp⟩
  · rintro ⟨hcore, hblank⟩
    rw [hports.2 hblank] at hcore
    exact hcore

theorem State.assertReset_assertReset (s : State) : s.assertReset = s.assertReset.assertReset :=
  (State.eq_assertReset_iff _).2 ⟨rfl, fun p => by rw [State.assertReset_port]; exact Port.blank_reset _ _⟩

/-- What the steps read of a state in which RESET is asserted. -/
structure Held (s : State) : Prop where
  asserted : s.resetAsserted = true
  ports : ∀ p, (s.port p).Blank
  entries : ∀ i, s.entry i = none
  toSchedule : s.ticksToSchedule = []
  toTrigger : s.ticksToTrigger = []
  releases : s.releaseRequests = []
  reports : s.endOfTickReports = []
  replies : s.scheduleToLines = []

theorem ResetLaw.held (h : ResetLaw s) (hr : s.resetAsserted = true) : Held s := by
  have hs := h hr
  refine ⟨hr, ((s.eq_assertReset_iff).1 hs).2, fun i => ?_, ?_, ?_, ?_, ?_, ?_⟩
  · rw [hs, State.assertReset_entry]
  all_goals rw [hs]; rfl

/-- The link pins, which the board drives, are all that moves while RESET is asserted. -/
theorem ResetLaw.withPort (h : ResetLaw s) (hr : s.resetAsserted = true) {pt : Port} (hpt : pt.Blank) :
    ResetLaw (s.withPort p pt) := by
  intro _
  obtain ⟨hcore, hports⟩ := s.eq_assertReset_iff.1 (h hr)
  refine (State.eq_assertReset_iff _).2 ⟨?_, fun q => ?_⟩
  · exact congrArg (fun u : State => { u with ports := s.ports.set p pt }) hcore
  · by_cases hq : q = p
    · rw [hq, State.withPort_port_same]
      exact hpt
    · rw [State.withPort_port_other _ _ hq]
      exact hports q

section Held
variable (h : Held s)
include h

theorem Held.wires (p : PortId) : (s.port p).wires = Wires.reset := congrArg Port.wires (h.ports p)

theorem Held.session (p : PortId) : (s.port p).session = Session.reset .detached := congrArg Port.session (h.ports p)

theorem Held.window (p : PortId) : (s.port p).link.window = .closed := congrArg (fun pt => pt.link.window) (h.ports p)

theorem Held.path (p : PortId) : (s.port p).link.path = .idle := congrArg (fun pt => pt.link.path) (h.ports p)

theorem Held.request (p : PortId) : (s.port p).request = none := by
  rw [Port.request, h.wires p]
  rfl

theorem Held.sessionRequest (p : PortId) : (s.port p).sessionRequest = none := by
  rw [Port.sessionRequest, h.wires p, h.session p]
  rfl

theorem Held.fallenDue (i : SlotId) : s.fallenDue i = none := by
  rw [State.fallenDue, h.entries i]

theorem Held.partingAt (p : PortId) (step : PartingStep) : s.partingAt p step = false := by
  rw [State.partingAt, h.wires p]
  rfl

end Held

/-- The pins of a blank port move: it stays blank. -/
theorem Port.Blank.pins {pt : Port} (h : pt.Blank) (linkp sel : Bool) :
    { pt with link := { pt.link with linkp := linkp, sel := sel, window := .closed } }.Blank := by
  unfold Port.Blank at h ⊢
  rw [h]
  rfl

/-- What a step may leave while RESET is asserted: the state with the link of one port as its pins give it. -/
def HeldStep (s t : State) : Prop := ∃ p pt, t = s.withPort p pt ∧ pt.Blank

theorem HeldStep.same (h : Held s) : HeldStep s s := ⟨0, s.port 0, by simp, h.ports 0⟩

theorem HeldStep.updPort {f : Port → Port} (h : (f (s.port p)).Blank) : HeldStep s (s.updPort p f) :=
  ⟨p, _, State.updPort_eq_withPort s p f, h⟩

theorem execLinkpFall_held (h : Held s) (p : LinkFall) : Yields (execLinkpFall p s) (HeldStep s) := by
  unfold execLinkpFall
  rw [h.asserted]
  split
  · exact .next (.same h)
  · refine .next (.updPort ?_)
    rw [Port.loseLink, Port.closeResponse, h.path]
    exact (h.ports p.port).pins false _

theorem execLinkpRise_held (h : Held s) (p : PortId) : Yields (execLinkpRise p s) (HeldStep s) := by
  unfold execLinkpRise
  rw [h.asserted]
  split
  · exact .next (.same h)
  · refine .next (.updPort ?_)
    have hpins := (h.ports p).pins true (s.port p).link.sel
    rwa [← h.window p] at hpins

theorem execWindowOpen_held (h : Held s) (p : PortId) : Yields (execWindowOpen p s) (HeldStep s) := by
  unfold execWindowOpen
  rw [h.asserted]
  split
  · exact .next (.same h)
  · rw [if_neg (by simp)]
    refine .next (.updPort ?_)
    have hpins := (h.ports p).pins (s.port p).link.linkp true
    rwa [← h.window p] at hpins

theorem HeldStep.deselect (h : Held s) (p : PortId) : HeldStep s (s.updLink p Link.deselect) :=
  .updPort ((h.ports p).pins _ false)

theorem execCommandWindowClose_held (h : Held s) (p : PortId) (bits stray : List Bool) :
    Yields (execCommandWindowClose p bits stray s) (HeldStep s) := by
  unfold execCommandWindowClose
  rw [h.window p]
  split
  · exact .next (.same h)
  · exact .next (.deselect h p)

theorem execResponseWindowClose_held (h : Held s) (p : PortId) (edges : Nat) :
    Yields (execResponseWindowClose p edges s) (HeldStep s) := by
  unfold execResponseWindowClose
  rw [h.window p]
  split
  · exact .next (.same h)
  · exact .next (.deselect h p)

/-- While RESET is asserted no step but those of the RESET pin and of the link pins finds anything to take. -/
theorem exec_held (h : Held s) (c : Instr) (hc : c.movesReset = false) : Yields (exec c s) (HeldStep s) := by
  have hidle : exec c s = .next s → Yields (exec c s) (HeldStep s) := fun e => ⟨s, e, .same h⟩
  cases c with
  | resetAssertion | resetRelease => cases hc
  | linkpFall p => exact execLinkpFall_held h p
  | linkpRise p => exact execLinkpRise_held h p
  | windowOpen p => exact execWindowOpen_held h p
  | commandWindowClose p bits stray => exact execCommandWindowClose_held h p bits stray
  | responseWindowClose p edges => exact execResponseWindowClose_held h p edges
  | status _ | heartbeat _ | parting _ =>
    exact hidle (by simp [exec, execStatus, execHeartbeat, execParting, h.sessionRequest])
  | fetch _ | time _ | prescale _ | claim _ | release _ | drive _ | lines _ =>
    exact hidle (by simp [exec, execFetch, execTime, execPrescale, execClaim, execRelease, execDrive, execLines, h.request])
  | schedule _ | cancel _ | query _ | list _ =>
    exact hidle (by simp [exec, execSchedule, execCancel, execQuery, execList, h.request])
  | alloc _ | free _ | load _ | segments _ =>
    exact hidle (by simp [exec, execAlloc, execFree, execLoad, execSegments, h.request])
  | subscribe _ | unsubscribe _ | inputs _ =>
    exact hidle (by simp [exec, execSubscribe, execUnsubscribe, execInputs, h.request])
  | tick _ | refclkPeriod _ => exact hidle (by simp [exec, execTick, execRefclkPeriod, h.asserted])
  | scheduleUnitTick => exact hidle (by simp [exec, execScheduleUnitTick, h.toSchedule])
  | expiry _ => exact hidle (by simp [exec, execExpiry, h.fallenDue])
  | triggerUnitTick => exact hidle (by simp [exec, execTriggerUnitTick, h.toTrigger])
  | releaseRequest _ => exact hidle (by simp [exec, execReleaseRequest, h.releases])
  | endOfTickReport => exact hidle (by simp [exec, execEndOfTickReport, h.reports])
  | opener p _ => exact hidle (by simp [exec, execOpener, h.window p])
  | releaseCompletion _ | orphanCompletion _ =>
    exact hidle (by simp [exec, execReleaseCompletion, execOrphanCompletion, h.replies])
  | partingRequest _ | freeStep _ | subscriptionStep _ =>
    exact hidle (by simp [exec, execPartingRequest, execFreeStep, execSubscriptionStep, h.partingAt])
  | partingStepReply p | flushReply p =>
    exact hidle (by simp [exec, execPartingStepReply, execFlushReply, h.session p, Session.reset])
  | completion p | withdrawalReply p =>
    exact hidle (by simp [exec, execCompletion, execWithdrawalReply, h.wires p, Wires.offers, Wires.reset])
  | sessionControllerTick p | lapse p =>
    exact hidle (by simp [exec, execSessionControllerTick, execLapse, State.lapses, h.wires p, Wires.reset])
  | post p source => exact hidle (by cases source <;> simp [exec, execPost, h.wires p, Wires.reset])
  | reportOfLinkpRising p | reportOfLinkpFalling p =>
    exact hidle (by simp [exec, execReportOfLinkpRising, execReportOfLinkpFalling, h.wires p, Wires.reset])
  | acceptanceReport p | settlementReport p =>
    exact hidle (by simp [exec, execAcceptanceReport, execSettlementReport, h.wires p, Wires.reset])
  | acceptanceAnswer p | departureInstruction p =>
    exact hidle (by simp [exec, execAcceptanceAnswer, execDepartureInstruction, h.wires p, Wires.reset])
  | withdrawalRequest p _ => exact hidle (by simp [exec, execWithdrawalRequest, h.wires p, Wires.reset])
  | departureReport p | attachmentReport p | flush p =>
    exact hidle (by simp [exec, execDepartureReport, execAttachmentReport, execFlush, h.wires p, Wires.reset])
  | acknowledgement p | returnRequest p =>
    exact hidle (by simp [exec, execAcknowledgement, execReturnRequest, h.wires p, Wires.reset])
  | releaseCancellationRequest p | orphanRequest p =>
    exact hidle (by simp [exec, execReleaseCancellationRequest, execOrphanRequest, h.wires p, Wires.reset])
  | orphanStart p | lineStep p =>
    exact hidle (by simp [exec, execOrphanStart, execLineStep, h.wires p, Wires.reset])
  | orphanCompletionReply p =>
    exact hidle (by simp [exec, execOrphanCompletionReply, h.wires p, Wires.reset])

theorem exec_keeps_resetLaw (h : ResetLaw s) (he : exec c s = .next t) : ResetLaw t := by
  intro ht
  by_cases hc : c.movesReset = false
  · have hr : s.resetAsserted = true := ((exec_next_frame he).reset hc).symm.trans ht
    obtain ⟨p, pt, rfl, hpt⟩ := (exec_held (h.held hr) c hc).of_next he
    exact h.withPort hr hpt ht
  cases c with
  | resetAssertion =>
    cases he
    exact s.assertReset_assertReset
  | resetRelease =>
    have hreleased : Yields (execResetRelease s) fun t => t.resetAsserted = false := by
      unfold execResetRelease
      split
      · exact .next rfl
      · next hr => exact .next (by simpa using hr)
    rw [hreleased.of_next he] at ht
    cases ht
  | _ => exact absurd rfl hc

/-! ### The lapse counts -/

/-- At the release of RESET no session record has a lapse count. -/
theorem execResetRelease_lapseLaw (hreset : ResetLaw s) (h : LapseLaw s) :
    Yields (execResetRelease s) LapseLaw := by
  unfold execResetRelease
  split
  · next hr =>
    refine .next ((lapseLaw_iff _).2 fun p => Session.lapseOk_of_none ?_)
    rw [State.releaseReset_port]
    dsimp only
    rw [(hreset.held hr).session p]
    rfl
  · exact .next h

theorem exec_keeps_lapseLaw (hreset : ResetLaw s) (h : LapseLaw s) (he : exec c s = .next t) : LapseLaw t := by
  by_cases hc : c.movesReset = false
  · exact (exec_next_frame he).lapse hc h
  cases c with
  | resetAssertion =>
    cases he
    refine (lapseLaw_iff _).2 fun p => Session.lapseOk_of_none ?_
    rw [State.assertReset_port]
    rfl
  | resetRelease => exact (execResetRelease_lapseLaw hreset h).of_next he
  | _ => exact absurd rfl hc

end Sys2Proof.Machine
end

section
/-! SUPPORT. The statements settled: the laws hold after RESET and every step keeps them; which steps change what. -/

namespace Sys2Proof.Machine

/-- Settles O53: each law does not read the queue of steps and is kept by every command. -/
theorem stepsKeepTheRecords : Obligations.StepsKeepTheRecords :=
  ⟨step_keeps (fun _ _ h => h) fun _ _ _ => exec_keeps_lineLaw,
    step_keeps (fun _ _ h => h) fun _ _ _ => exec_keeps_storeLaw,
    step_keeps (fun _ _ h => h) fun _ _ _ => exec_keeps_countLaw,
    step_keeps (fun _ _ h => h) fun _ _ _ => exec_keeps_tickLaw⟩

/-- Settles O56: the tick at the schedule unit needs the clock, to follow now, and the work of now done, to leave no entry
at distance 0 behind. -/
theorem stepsKeepTheDueLaw : Obligations.StepsKeepTheDueLaw := by
  intro s t hclock hdue
  refine step_keeps (P := fun s => ClockLaw s ∧ DueLaw s) (fun _ _ h => h) (fun c s t h he => ?_) s t ⟨hclock, hdue⟩
  obtain ⟨hclock, hdue⟩ := h
  exact ⟨exec_keeps_clockLaw hclock he, exec_keeps_dueLaw hclock hdue he⟩

/-- The values while RESET is asserted leave the queue of steps free. -/
theorem ResetLaw.setPending {s : State} (h : ResetLaw s) (rest : List Instr) : ResetLaw { s with pending := rest } :=
  fun hr => congrArg (fun u : State => { u with pending := rest }) (h hr)

/-- Settles O57: the release of RESET needs the values while RESET is asserted, which hold no lapse count. -/
theorem stepsKeepResetAndLapse : Obligations.StepsKeepResetAndLapse := by
  intro s t htime hreset hlapse
  refine step_keeps (P := fun s => TimebaseLaw s ∧ ResetLaw s ∧ LapseLaw s)
    (fun s rest ⟨htime, hreset, hlapse⟩ => ⟨htime, hreset.setPending rest, hlapse⟩) (fun c s t h he => ?_)
    s t ⟨htime, hreset, hlapse⟩
  obtain ⟨htime, hreset, hlapse⟩ := h
  exact ⟨exec_keeps_timebaseLaw htime he, exec_keeps_resetLaw hreset he, exec_keeps_lapseLaw hreset hlapse he⟩

/-- Settles O59, by the frame of every step. -/
theorem blocksChangeOnlyByTheirEvents : Obligations.BlocksChangeOnlyByTheirEvents := by
  refine ⟨fun c s t k he hne => ?_, fun c s t he => ⟨fun hne => ?_, fun hne => ?_⟩, fun c s t he hne => ?_⟩
  · have hc : c.movesLevels ≠ false := fun e => hne ((exec_next_frame he).levels e k)
    cases c <;> simp_all [Instr.movesLevels]
  · have hc : c.writesWords ≠ false := fun e => hne ((exec_next_frame he).words e)
    cases c <;> simp_all [Instr.writesWords]
  · have hc : c.writesSegments ≠ false := fun e => hne ((exec_next_frame he).segments e)
    cases c <;> simp_all [Instr.writesSegments]
  · have hc : c.movesTime ≠ false := fun e => hne ((exec_next_frame he).value e)
    cases c <;> simp_all [Instr.movesTime]

theorem CollisionLaw.of_no_entry {s : State} (h : ∀ i, s.entry i = none) : CollisionLaw s :=
  ⟨fun i _ e _ _ he => by simp [h i] at he, fun i _ e _ _ _ _ _ he => by simp [h i] at he⟩

theorem QueueLaw.of_reset {s : State} (h : ∀ p, (s.port p).queue = NoticeQueue.reset) : QueueLaw s := by
  intro p
  rw [h p]
  exact
    ⟨{ capacity := Nat.zero_le 16
       head := ⟨0, rfl⟩
       last := fun _ h => by cases h
       dropped := fun _ h => by cases h
       later := fun _ _ _ h => by cases h },
      fun _ => ⟨fun _ h => absurd h (by simp [NoticeQueue.reset]), fun _ h => by cases h⟩⟩

/-- Settles O52: after RESET no entry, segment, subscription, tick or lapse count is there to break a law. -/
theorem lawsHoldAtReset : Obligations.LawsHoldAtReset := by
  have hentry (i : SlotId) (e : Entry) : State.reset.entry i ≠ some e := by simp
  have hsegment (k : Fin 8) (g : Segment) : State.reset.store.segments[k] ≠ some g := by
    rw [State.reset_segments]; simp
  have hplace (k : Fin 8) (sub : Subscription) : State.reset.trigger.places[k] ≠ some sub := by
    rw [State.reset_places]; simp
  have hstore : StoreLaw State.reset :=
    ⟨fun k g h => absurd h (hsegment k g), fun j _ g _ _ h => absurd h (hsegment j g)⟩
  have hcount : CountLaw State.reset := ⟨fun i e _ h => absurd h (hentry i e), fun k sub _ h => absurd h (hplace k sub)⟩
  have hsegments : SegmentLaw State.reset := fun i e _ _ h => absurd h (hentry i e)
  have howners : OwnershipLaw State.reset := fun i e _ h => absurd h (hentry i e)
  have hsafe : SafeLevelLaw State.reset := fun k _ => by simp [Line.reset]
  have hqueue : QueueLaw State.reset := .of_reset fun p => by simp [Port.reset]
  have hreset : ResetLaw State.reset := fun h => by cases h
  have hlapse : LapseLaw State.reset :=
    (lapseLaw_iff _).2 fun p => Session.lapseOk_of_none (by simp [Port.reset, Session.reset])
  have hclock : ClockLaw State.reset := ⟨fun n hn => absurd hn (Nat.not_lt_zero n), rfl⟩
  have hdue : DueLaw State.reset := fun i e _ h => absurd h (hentry i e)
  have htick : TickLaw State.reset := ⟨.inl rfl, .inl rfl, fun p => .inl (by simp [Port.reset, Wires.reset])⟩
  exact ⟨.of_reset State.reset_line, hstore, .of_no_entry State.reset_entry, hcount, hsegments, howners, hsafe, hqueue,
    hreset, hlapse, .of_reset rfl, hclock, hdue, htick⟩

end Sys2Proof.Machine
end

section
/-! SUPPORT. The statements about RESET, the timebase, the ticks at their takers and the views that the tables give. -/

namespace Sys2Proof.Machine

variable {s t : State} {p : PortId}

/-! ### RESET -/

/-- Settles O3, by what each part of the state reads after RESET and after its release. -/
theorem resetSetsEveryBlock : Obligations.ResetSetsEveryBlock := by
  refine ⟨⟨rfl, State.reset_line, State.reset_slot, State.reset_words, State.reset_segments, State.reset_inputs,
    State.reset_places, fun p => ?_, fun p => ?_, fun p => ?_⟩, fun s => ?_, fun s => ⟨fun hr => ?_, fun hr => ?_⟩⟩
  · rw [State.reset_port]; rfl
  · rw [State.reset_port]; exact ⟨rfl, rfl, rfl⟩
  · rw [State.reset_port]; rfl
  · refine ⟨s.assertReset, rfl, rfl, rfl, rfl, s.assertReset_line, s.assertReset_slot, rfl, rfl, rfl, rfl, rfl, rfl, rfl,
      rfl, rfl, fun p => ⟨s.assertReset_port p, ?_⟩⟩
    rw [State.attention, State.assertReset_port]
    rfl
  · refine ⟨s.releaseReset, ?_, rfl, s.releaseReset_port⟩
    show execResetRelease s = _
    rw [execResetRelease, if_pos hr]
  · show execResetRelease s = _
    rw [execResetRelease, if_neg (by simp [hr])]

/-! ### The tick at the timebase -/

theorem exec_tick_of_settled (levels : BitVec 4) (hr : s.resetAsserted = false) (h : TickSettled s) :
    exec (.tick levels) s = .next (s.deliverTick levels) := by
  show execTick levels s = _
  rw [execTick, if_neg (by simp [hr]), State.makeTick, if_pos ((State.tickSettled_iff s).2 h)]

theorem exec_tick_of_not_settled (levels : BitVec 4) (h : ¬ TickSettled s) : exec (.tick levels) s = .next s := by
  show execTick levels s = _
  rw [execTick, State.makeTick, if_neg (mt (State.tickSettled_iff s).1 h), ite_self]

/-- A tick made before the work of now is done would leave some of it behind. -/
theorem not_workDone (h : (∃ i e, s.entry i = some e ∧ e.state = .timed s.schedule.now) ∨
    s.schedule.endOfTickTaken = false ∨ ∃ r ∈ s.releaseRequests, r.tick = s.schedule.now) : ¬ WorkDone s := by
  rintro ⟨hdue, hreport, hreleases⟩
  obtain ⟨i, e, he, hd⟩ | hr | ⟨r, hr, ht⟩ := h
  · exact hdue i e he hd
  · simp [hr] at hreport
  · exact hreleases r hr ht

/-- Settles O5: the tick is `deliverTick` when every taker is settled, and waits otherwise. -/
theorem tickAdvancesAndIsDelivered : Obligations.TickAdvancesAndIsDelivered := by
  refine ⟨fun levels s hr h => ?_, fun levels s h => exec_tick_of_not_settled levels ?_⟩
  · exact ⟨s.deliverTick levels, exec_tick_of_settled levels hr h, rfl, rfl, rfl, s.deliverTick_port levels, rfl⟩
  · rintro ⟨hschedule, htrigger, hsessions, hwork⟩
    obtain h | h | ⟨p, h⟩ | h := h
    · exact h hschedule
    · exact h htrigger
    · exact h (hsessions p)
    · exact not_workDone h hwork

/-! ### The REFCLK periods of an interval -/

theorem exec_refclkPeriod_of_reset (levels : BitVec 4) (hr : s.resetAsserted = true) :
    exec (.refclkPeriod levels) s = .next s := by
  show execRefclkPeriod levels s = _
  rw [execRefclkPeriod, if_pos hr]

theorem exec_refclkPeriod_inside (levels : BitVec 4) (hr : s.resetAsserted = false)
    (h : s.timebase.intervalCount + 1 < s.timebase.intervalLength) : exec (.refclkPeriod levels) s = .next { s with
      inputPins := levels
      timebase := { s.timebase with intervalCount := s.timebase.intervalCount + 1 } } := by
  show execRefclkPeriod levels s = _
  rw [execRefclkPeriod, if_neg (by simp [hr]), State.refclk, if_neg (by simp [Timebase.endsInterval, h])]
  rfl

theorem exec_refclkPeriod_last (levels : BitVec 4) (h : s.timebase.intervalLength ≤ s.timebase.intervalCount + 1) :
    exec (.refclkPeriod levels) s = exec (.tick levels) s := by
  have hends : s.timebase.endsInterval = true := by simpa [Timebase.endsInterval] using h
  show execRefclkPeriod levels s = execTick levels s
  rw [execRefclkPeriod, execTick, State.refclk, if_pos hends]

theorem runSteps_cons_of_next {c : Instr} {rest : List Instr} (h : exec c s = .next t) :
    runSteps (c :: rest) s = runSteps rest t := by
  rw [runSteps, h]

theorem runSteps_singleton {c : Instr} (h : exec c s = .next t) : runSteps [c] s = exec c s := by
  rw [runSteps_cons_of_next h, h]
  rfl

/-- The periods counted before the last one leave no trace in the tick: it sets the pins and the count afresh. -/
theorem runSteps_refclkPeriods (k : Nat) (levels : BitVec 4) : ∀ s : State, s.resetAsserted = false → TickSettled s →
    s.timebase.intervalCount + (k + 1) = s.timebase.intervalLength →
    runSteps (List.replicate (k + 1) (.refclkPeriod levels)) s = .next (s.deliverTick levels) := by
  induction k with
  | zero =>
    intro s hr h hk
    have hlast : exec (.refclkPeriod levels) s = .next (s.deliverTick levels) :=
      (exec_refclkPeriod_last levels (by omega)).trans (exec_tick_of_settled levels hr h)
    exact (runSteps_singleton hlast).trans hlast
  | succ k ih =>
    intro s hr h hk
    rw [List.replicate_succ, runSteps_cons_of_next (exec_refclkPeriod_inside levels hr (by omega)), ih]
    · rfl
    · exact hr
    · exact ⟨h.schedule, h.trigger, h.sessions, ⟨h.work.due, h.work.report, h.work.releases⟩⟩
    · dsimp only
      omega

/-- Settles O4; the run of the periods left, by induction on their number. -/
theorem refclkPeriodsMakeTheTick : Obligations.RefclkPeriodsMakeTheTick := by
  refine ⟨fun levels s => ⟨exec_refclkPeriod_inside levels, exec_refclkPeriod_last levels, fun hr => ⟨?_, ?_⟩⟩,
    fun k levels s hr h hk => ?_⟩
  · exact exec_refclkPeriod_of_reset levels hr
  · show execTick levels s = _
    rw [execTick, if_pos hr]
  · exact (runSteps_refclkPeriods k levels s hr h hk).trans (exec_tick_of_settled levels hr h).symm

/-! ### Distances -/

theorem distance_eq (a b : Tick) : distance a b = (b.toNat + (2 ^ 32 - a.toNat)) % 2 ^ 32 := by
  rw [distance, BitVec.toNat_sub, Nat.add_comm]

theorem inFuture_iff (a b : Tick) : inFuture a b = true ↔ 1 ≤ distance a b ∧ distance a b ≤ 2 ^ 31 - 1 := by
  simp [inFuture, Config.horizon, Nat.one_le_iff_ne_zero, Nat.pos_iff_ne_zero]

/-- The two distances between distinct values complete the circle of 2^32. -/
theorem distance_add_distance {a b : Tick} (h : a ≠ b) :
    0 < distance a b ∧ 0 < distance b a ∧ distance a b + distance b a = 2 ^ 32 := by
  have ha := a.isLt
  have hb := b.isLt
  have hne : a.toNat ≠ b.toNat := fun e => h (BitVec.eq_of_toNat_eq e)
  rw [distance_eq, distance_eq]
  omega

theorem sub_eq_iff_distance (a b : Tick) : b - a = 0x80000000 ↔ distance a b = 2 ^ 31 := by
  rw [distance, ← BitVec.toNat_inj]
  rfl

/-- Settles O6: of the two distances between distinct values one is below 2^31, or both are 2^31. -/
theorem distanceDecidesTheFuture : Obligations.DistanceDecidesTheFuture := by
  intro a b
  refine ⟨by simp [inFuture, distance], ?_, fun h => ?_⟩
  · rw [inFuture_iff, distance_eq]
  · obtain ⟨hab, hba, hcircle⟩ := distance_add_distance h
    simp only [← Bool.not_eq_true, inFuture_iff, ne_eq, sub_eq_iff_distance]
    omega

/-! ### PRESCALE -/

theorem exec_prescale_of_requested {v : BitVec 24} (h : Requested s p (.prescale v)) :
    exec (.prescale p) s = .next (s.takePrescale p v) := by
  show execPrescale p s = _
  rw [execPrescale, (s.request_iff p _).2 h]

theorem State.anyPending_iff (s : State) : s.anyPending = true ↔ ∃ i, s.entry i ≠ none := by
  simp [State.anyPending, Option.isSome_iff_ne_none]

/-- Settles O7, by the checks of `takePrescale` in their order. -/
theorem prescaleNeedsAnEmptySchedule : Obligations.PrescaleNeedsAnEmptySchedule := by
  intro p v s h
  rw [exec_prescale_of_requested h, State.takePrescale]
  refine ⟨fun hrange => ?_, fun hlow hhigh hpending => ?_, fun hlow hhigh hempty => ?_⟩
  · rw [if_pos hrange]
  · rw [if_neg (by omega), if_pos ((s.anyPending_iff).2 hpending)]
  · have hnone : ¬ s.anyPending = true := by
      rw [State.anyPending_iff]
      rintro ⟨i, hi⟩
      exact hi (hempty i)
    rw [if_neg (by omega), if_neg hnone]
    rfl

/-! ### The tick at the schedule unit -/

@[simp] theorem ScheduleUnit.tick_slot (u : ScheduleUnit) (d : Tick) (i : SlotId) :
    (u.tick d).slots[i] = { u.slots[i] with entry := u.slots[i].entry.map Entry.unmarked } := by
  simp [ScheduleUnit.tick]

theorem exec_scheduleUnitTick_of_workDone {d : Tick} {rest : List Tick} (hticks : s.ticksToSchedule = d :: rest)
    (h : WorkDone s) :
    exec .scheduleUnitTick s = .next { s with ticksToSchedule := rest, schedule := s.schedule.tick d } := by
  show execScheduleUnitTick s = _
  rw [execScheduleUnitTick, hticks]
  dsimp only
  rw [if_pos ((State.tickWorkDone_iff s).2 h)]

/-- Settles O26: the tick waits unless the work of now is done, and then clears the newly joined marks. -/
theorem tickFollowsTheWorkBeforeIt : Obligations.TickFollowsTheWorkBeforeIt := by
  refine ⟨fun d rest s hticks h => ?_, fun s h => ?_, fun d rest s hreports => ⟨fun hd => ?_, fun hd => ?_⟩⟩
  · refine ⟨(s.schedule.tick d).slots, exec_scheduleUnitTick_of_workDone hticks h, fun i => ?_⟩
    rw [ScheduleUnit.tick_slot]
    refine ⟨rfl, fun he => ?_, fun e due he hs => ?_, fun e k sel offset mark he hs => ?_⟩
    · exact congrArg (Option.map Entry.unmarked) he
    · exact (congrArg (Option.map Entry.unmarked) he).trans (by simp [Entry.unmarked, hs])
    · exact (congrArg (Option.map Entry.unmarked) he).trans (by simp [Entry.unmarked, hs])
  · obtain hwait | ⟨_, _, _, hdone, _⟩ := execScheduleUnitTick_cases s
    · exact hwait
    · exact absurd hdone (not_workDone h)
  · show execEndOfTickReport s = _
    rw [execEndOfTickReport, hreports]
    dsimp only
    rw [if_pos hd]
  · show execEndOfTickReport s = _
    rw [execEndOfTickReport, hreports]
    dsimp only
    rw [if_neg hd]

/-! ### The tick at a session controller -/

section SessionTick
variable {d : Tick} {rest : List Tick} (hticks : (s.port p).wires.ticks = d :: rest)
  (hasking : (s.port p).session.asking = none)
include hticks hasking

theorem exec_sessionControllerTick :
    exec (.sessionControllerTick p) s = .next ((s.popTick p).sessionTick p) := by
  show execSessionControllerTick p s = _
  rw [execSessionControllerTick, hticks]
  dsimp only
  rw [if_neg (by simp [State.asking, hasking])]

/-- LAPSE is the tick that takes the count to 0 (log 7). -/
theorem exec_lapse :
    exec (.lapse p) s = if (s.running p).any (fun n => decide (n ≤ 1)) then .next ((s.popTick p).takeLapse p)
      else .next s := by
  show execLapse p s = _
  rw [execLapse, State.lapses, State.asking, hticks, hasking]
  rfl

end SessionTick

theorem State.popTick_eq {d : Tick} {rest : List Tick} (hticks : (s.port p).wires.ticks = d :: rest) :
    s.popTick p = s.withPort p { s.port p with wires := { (s.port p).wires with ticks := rest } } := by
  rw [State.popTick, State.updWires, State.updPort_eq_withPort, hticks]
  rfl

@[simp] theorem State.popTick_running (s : State) (p : PortId) : (s.popTick p).running p = s.running p := by
  simp [State.running, State.popTick]

/-- Settles O47, by the cases of the running lapse count: 2 or more, absent, 1. -/
theorem sessionTickLowersTheCount : Obligations.SessionTickLowersTheCount := by
  intro p d rest s hticks hasking se w
  rw [exec_sessionControllerTick hticks hasking, exec_lapse hticks hasking, State.sessionTick, State.popTick_running]
  refine ⟨fun n hs hc => ?_, fun h => ?_, fun hs hc => ?_⟩
  · have hrun : s.running p = some (n + 2) := by rw [State.running, if_pos hs]; exact hc
    rw [hrun, State.popTick_eq hticks]
    simp [State.updSession, State.updPort_eq_withPort, se, w]
  · have hrun : s.running p = none := by
      rw [State.running]
      split
      · next hs => exact h.resolve_left (fun hn => hn hs)
      · rfl
    rw [hrun, State.popTick_eq hticks]
    exact ⟨rfl, rfl⟩
  · have hrun : s.running p = some 1 := by rw [State.running, if_pos hs]; exact hc
    rw [hrun, State.popTick_eq hticks]
    refine ⟨rfl, ?_⟩
    simp [State.takeLapse, Session.lapsed, State.updWires, State.updSession, State.updPort_eq_withPort, se, w]

end Sys2Proof.Machine
end

section
/-! SUPPORT. The views that TIME and the tables give, and the holes of the pattern store that SEGMENTS reports (R89,
R100). -/

namespace Sys2Proof.Machine

variable {s : State} {p : PortId} {st : PatternStore}

/-! ### Holes -/

theorem PatternStore.covered_eq_false_iff (st : PatternStore) (w : Nat) : st.covered w = false ↔ Unallocated st w := by
  rw [← Bool.not_eq_true, PatternStore.covered, Vector.any_eq_true]
  constructor
  · intro h k g hk hw
    exact h ⟨k.val, k.isLt, (Option.any_eq_true _ _).2 ⟨g, hk, by simpa [Segment.covers] using hw⟩⟩
  · rintro h ⟨k, hk, hc⟩
    obtain ⟨g, hg, hw⟩ : ∃ g, st.segments[k] = some g ∧ g.base ≤ w ∧ w < g.base + g.length := by
      simpa [Option.any_eq_true, Segment.covers] using hc
    exact h ⟨k, hk⟩ g hg hw

/-- The m words from b on are unallocated (R89). -/
def PatternStore.HoleAt (st : PatternStore) (b m : Nat) : Prop := ∀ w, b ≤ w → w < b + m → Unallocated st w

theorem PatternStore.HoleAt.mono {b m b' m' : Nat} (h : st.HoleAt b m) (hb : b ≤ b') (hm : b' + m' ≤ b + m) :
    st.HoleAt b' m' := fun w hw hw' => h w (by omega) (by omega)

/-- A run of words that reaches an allocated one is empty. -/
theorem PatternStore.HoleAt.eq_zero_of_covered {b m n : Nat} (h : st.HoleAt b m) (hn : ¬ Unallocated st n)
    (hb : b + m = n + 1) : m = 0 := by
  by_contra hm
  exact hn (h n (by omega) (by omega))

theorem PatternStore.HoleAt.extend {b m : Nat} (h : st.HoleAt b m) (hn : Unallocated st (b + m)) :
    st.HoleAt b (m + 1) := by
  intro w hw hw'
  by_cases he : w = b + m
  · exact he ▸ hn
  · exact h w hw (by omega)

/-- What the scan of `longestHole` has found in the first n words: the longest run that ends there, and the longest run. -/
structure PatternStore.Scanned (st : PatternStore) (n : Nat) (acc : Nat × Nat) : Prop where
  runEnds : acc.1 ≤ n
  run : st.HoleAt (n - acc.1) acc.1
  runLongest : ∀ m, m ≤ n → st.HoleAt (n - m) m → m ≤ acc.1
  hole : ∃ b, b + acc.2 ≤ n ∧ st.HoleAt b acc.2
  holeLongest : ∀ b m, b + m ≤ n → st.HoleAt b m → m ≤ acc.2

theorem PatternStore.Scanned.start (st : PatternStore) : st.Scanned 0 (0, 0) where
  runEnds := Nat.le_refl 0
  run := fun _ _ hw => absurd hw (Nat.not_lt_zero _)
  runLongest := fun _ hm _ => hm
  hole := ⟨0, Nat.le_refl 0, fun _ _ hw => absurd hw (Nat.not_lt_zero _)⟩
  holeLongest := fun _ _ hm _ => by dsimp only; omega

/-- An allocated word ends the run. -/
theorem PatternStore.Scanned.covered {n : Nat} {acc : Nat × Nat} (h : st.Scanned n acc) (hn : ¬ Unallocated st n) :
    st.Scanned (n + 1) (0, acc.2) where
  runEnds := Nat.zero_le _
  run := fun w hw hw' => by dsimp only at hw hw'; omega
  runLongest := fun m hm hhole => (hhole.eq_zero_of_covered hn (by omega)).le
  hole := by
    obtain ⟨b, hb, hhole⟩ := h.hole
    exact ⟨b, by dsimp only; omega, hhole⟩
  holeLongest := fun b m hm hhole => by
    by_cases hend : b + m = n + 1
    · exact (hhole.eq_zero_of_covered hn hend).le.trans (Nat.zero_le _)
    · exact h.holeLongest b m (by omega) hhole

/-- An unallocated word lengthens the run. -/
theorem PatternStore.Scanned.uncovered {n : Nat} {acc : Nat × Nat} (h : st.Scanned n acc) (hn : Unallocated st n) :
    st.Scanned (n + 1) (acc.1 + 1, max acc.2 (acc.1 + 1)) := by
  have hends := h.runEnds
  have hrun : st.HoleAt (n - acc.1) (acc.1 + 1) := h.run.extend (by rwa [Nat.sub_add_cancel hends])
  have hlongest (m : Nat) (hm : m ≤ n + 1) (hhole : st.HoleAt (n + 1 - m) m) : m ≤ acc.1 + 1 := by
    cases m with
    | zero => exact Nat.zero_le _
    | succ m => exact Nat.succ_le_succ (h.runLongest m (by omega) (hhole.mono (by omega) (by omega)))
  refine ⟨by dsimp only; omega, ?_, hlongest, ?_, fun b m hm hhole => ?_⟩
  · dsimp only
    rwa [Nat.add_sub_add_right]
  · rcases Nat.le_total acc.2 (acc.1 + 1) with hle | hle
    · exact ⟨n - acc.1, by simp only [max_eq_right hle]; omega, by simpa only [max_eq_right hle] using hrun⟩
    · obtain ⟨b, hb, hhole⟩ := h.hole
      exact ⟨b, by simp only [max_eq_left hle]; omega, by simpa only [max_eq_left hle] using hhole⟩
  · by_cases hend : b + m = n + 1
    · have hb : b = n + 1 - m := by omega
      exact (hlongest m (by omega) (hb ▸ hhole)).trans (le_max_right _ _)
    · exact (h.holeLongest b m (by omega) hhole).trans (le_max_left _ _)

theorem PatternStore.Scanned.holeStep {n : Nat} {acc : Nat × Nat} (h : st.Scanned n acc) :
    st.Scanned (n + 1) (st.holeStep acc n) := by
  unfold PatternStore.holeStep
  split
  · next hc => exact h.covered fun hn => by simp [(st.covered_eq_false_iff n).2 hn] at hc
  · next hc => exact h.uncovered ((st.covered_eq_false_iff n).1 (by simpa using hc))

theorem PatternStore.scanned (st : PatternStore) (n : Nat) : st.Scanned n ((List.range n).foldl st.holeStep (0, 0)) := by
  induction n with
  | zero => exact .start st
  | succ n ih =>
    rw [List.range_succ, List.foldl_append]
    exact ih.holeStep

theorem PatternStore.exists_longestHole (st : PatternStore) :
    ∃ b, b + st.longestHole ≤ 256 ∧ st.HoleAt b st.longestHole := (st.scanned 256).hole

theorem PatternStore.le_longestHole {b n : Nat} (hb : b + n ≤ 256) (h : st.HoleAt b n) : n ≤ st.longestHole :=
  (st.scanned 256).holeLongest b n hb h

/-- The words that `unallocated` counts. -/
theorem PatternStore.unallocated_words (st : PatternStore) : ∃ ws : List Nat, ws.Nodup ∧
    (∀ w, w ∈ ws ↔ w < 256 ∧ Unallocated st w) ∧ st.unallocated = ws.length :=
  ⟨(List.range 256).filter fun w => !st.covered w, List.nodup_range.filter _,
    fun w => by simp [← st.covered_eq_false_iff], List.countP_eq_length_filter⟩

/-! ### First fit -/

/-- With no empty segment, words fit where none of them is allocated (R92). -/
theorem PatternStore.fits_iff_holeAt {n b : Nat} (h : StoreLaw s) (hn : 1 ≤ n) :
    s.store.fits n b = true ↔ b + n ≤ 256 ∧ s.store.HoleAt b n := by
  rw [PatternStore.fits_iff]
  refine and_congr Iff.rfl ⟨fun hfits w hw hw' k g hk hin => ?_, fun hhole k g hk => ?_⟩
  · have := hfits k g hk
    omega
  · by_contra hmeet
    obtain ⟨hlength, -⟩ := h.1 k g hk
    exact hhole (max b g.base) (by omega) (by omega) k g hk ⟨by omega, by omega⟩

theorem PatternStore.firstFit_of_le {n : Nat} (h : StoreLaw s) (hn : 1 ≤ n) (hle : n ≤ s.store.longestHole) :
    ∃ b, s.store.firstFit n = some b := by
  obtain ⟨b, hb, hhole⟩ := s.store.exists_longestHole
  have hfits : s.store.fits n b = true :=
    (fits_iff_holeAt h hn).2 ⟨by omega, hhole.mono (Nat.le_refl b) (by omega)⟩
  exact Option.isSome_iff_exists.1 (List.find?_isSome.2 ⟨b, List.mem_range.2 (by omega), hfits⟩)

theorem PatternStore.firstFit_of_lt {n : Nat} (h : StoreLaw s) (hn : 1 ≤ n) (hlt : s.store.longestHole < n) :
    s.store.firstFit n = none := by
  rw [PatternStore.firstFit, List.find?_eq_none]
  intro b _ hfits
  obtain ⟨hb, hhole⟩ := (fits_iff_holeAt h hn).1 hfits
  have := le_longestHole hb hhole
  omega

theorem PatternStore.freeRecord_of_free (h : ∃ k : Fin 8, st.segments[k] = none) : ∃ k, st.freeRecord = some k := by
  obtain ⟨k, hk⟩ := h
  exact Option.isSome_iff_exists.1 (List.find?_isSome.2 ⟨k, List.mem_finRange k, by simpa using hk⟩)

/-- An ALLOC in range, with a record free, is decided by first fit. -/
theorem State.takeAlloc_of_free {n : BitVec 16} {k : Fin 8} (hlow : 1 ≤ n.toNat) (hhigh : n.toNat ≤ 256)
    (hk : s.store.freeRecord = some k) :
    (∀ b, s.store.firstFit n.toNat = some b → s.takeAlloc p n = { s.finish p .ok (.alloc k b) with
      store := { s.store with segments := s.store.segments.set k (some ⟨p, b, n.toNat⟩) } }) ∧
    (s.store.firstFit n.toNat = none → s.takeAlloc p n = s.finish p .noSpace .empty) := by
  have hrange : ¬ (n.toNat = 0 ∨ 256 < n.toNat) := by omega
  refine ⟨fun b hb => ?_, fun hb => ?_⟩
  · simp only [State.takeAlloc, if_neg hrange, hk, hb]
    rfl
  · simp only [State.takeAlloc, if_neg hrange, hk, hb]

/-! ### The requests -/

theorem exec_time_of_requested (h : Requested s p .time) :
    exec (.time p) s = .next (s.finish p .ok (.time s.timebase.value s.timebase.prescale)) := by
  show execTime p s = _
  rw [execTime, (s.request_iff p _).2 h]

theorem exec_lines_of_requested (h : Requested s p .lines) :
    exec (.lines p) s = .next (s.finish p .ok (.lines s.lines)) := by
  show execLines p s = _
  rw [execLines, (s.request_iff p _).2 h]

theorem exec_segments_of_requested (h : Requested s p .segments) : exec (.segments p) s = .next
    (s.finish p .ok (.segments s.store.segments s.store.unallocated s.store.longestHole)) := by
  show execSegments p s = _
  rw [execSegments, (s.request_iff p _).2 h]

theorem exec_inputs_of_requested (h : Requested s p .inputs) :
    exec (.inputs p) s = .next (s.finish p .ok (.inputs s.trigger.inputs s.trigger.places)) := by
  show execInputs p s = _
  rw [execInputs, (s.request_iff p _).2 h]

theorem exec_alloc_of_requested {n : BitVec 16} (h : Requested s p (.alloc n)) :
    exec (.alloc p) s = .next (s.takeAlloc p n) := by
  show execAlloc p s = _
  rw [execAlloc, (s.request_iff p _).2 h]

/-- Settles O8: the scan finds the longest hole, and first fit succeeds exactly up to its length. -/
theorem tablesAndTimeAreRead : Obligations.TablesAndTimeAreRead := by
  refine ⟨fun p s => exec_time_of_requested,
    fun p s => ⟨exec_lines_of_requested, exec_segments_of_requested, exec_inputs_of_requested⟩,
    fun st => ⟨st.unallocated_words, st.exists_longestHole, fun b n => PatternStore.le_longestHole⟩,
    fun p n s hreq hlaw hlow hhigh hfree => ?_⟩
  obtain ⟨k, hk⟩ := PatternStore.freeRecord_of_free hfree
  obtain ⟨hplaced, hrefused⟩ := State.takeAlloc_of_free (p := p) hlow hhigh hk
  rw [exec_alloc_of_requested hreq]
  refine ⟨fun hle => ?_, fun hlt => ?_⟩
  · obtain ⟨b, hb⟩ := PatternStore.firstFit_of_le hlaw hlow hle
    exact ⟨k, b, congrArg _ (hplaced b hb)⟩
  · exact congrArg _ (hrefused (PatternStore.firstFit_of_lt hlaw hlow hlt))

end Sys2Proof.Machine
end

section
/-! SUPPORT. Pending entries keep their lines and segments, and unowned lines their safe levels: what a step makes of what
an entry stands on. -/

namespace Sys2Proof.Machine

variable {c : Instr} {s t u : State} {p : PortId} {i : SlotId} {e e₀ : Entry} {st : PatternStore}

/-! ### Sets of lines -/

@[simp] theorem hasLine_zero (k : Fin 16) : hasLine (0#16) k = false := by simp [hasLine]

theorem lineSet_eq_zero_iff (ls : LineSet) : ls = 0 ↔ ∀ k, hasLine ls k = false := by
  refine ⟨by rintro rfl; exact hasLine_zero, fun h => BitVec.eq_of_getLsbD_eq fun k hk => ?_⟩
  exact (h ⟨k, hk⟩).trans (hasLine_zero ⟨k, hk⟩).symm

theorem State.conflicting_eq_zero_iff (s : State) (p : PortId) (ls : LineSet) : s.conflicting p ls = 0 ↔
    ∀ k q, hasLine ls k = true → (s.line k).owner = some q → q = p := by
  simp only [lineSet_eq_zero_iff, ← Bool.not_eq_true, s.hasLine_conflicting]
  exact forall_congr' fun k => ⟨fun h q hk hq => not_not.1 fun hne => h ⟨hk, q, hq, hne⟩,
    fun h ⟨hk, q, hq, hne⟩ => hne (h q hk hq)⟩

/-! ### What an entry stands on -/

/-- R36, R95 for one entry: `SegmentLaw` says it of every entry. -/
def Entry.SegmentOk (e : Entry) (st : PatternStore) : Prop :=
  ∀ seg pos, e.action = .pattern seg pos → ∃ g, st.segments[seg] = some g ∧ g.owner = e.port ∧ pos < g.length

/-- R46 for one entry: `OwnershipLaw` says it of every entry. -/
def Entry.LinesOwned (e : Entry) (s : State) : Prop := ∀ k, hasLine e.lines k = true → (s.line k).owner = some e.port

theorem segmentLaw_iff (s : State) : SegmentLaw s ↔ ∀ i e, s.entry i = some e → e.SegmentOk s.store :=
  ⟨fun h i e he seg pos => h i e seg pos he, fun h i e seg pos he => h i e he seg pos⟩

theorem ownershipLaw_iff (s : State) : OwnershipLaw s ↔ ∀ i e, s.entry i = some e → e.LinesOwned s :=
  ⟨fun h i e he k => h i e k he, fun h i e k he => h i e he k⟩

/-- What no step changes of a pending entry (R36): its port and its lines, and of its action no more than the position
that a firing moves on. -/
structure Entry.Continues (st : PatternStore) (e₀ e : Entry) : Prop where
  port : e.port = e₀.port
  lines : e.lines = e₀.lines
  action : e.action = e₀.action ∨ e.action = e₀.action.advanced st

theorem Entry.Continues.refl (e : Entry) : e.Continues st e := ⟨rfl, rfl, .inl rfl⟩

theorem Entry.Continues.unmarked (e : Entry) : e.Continues st e.unmarked := by
  unfold Entry.unmarked
  split
  · exact ⟨rfl, rfl, .inl rfl⟩
  · exact .refl e

theorem Entry.Continues.rescheduled (e : Entry) (remaining : Remaining) (due : Tick) :
    e.Continues st (e.rescheduled st remaining due) := ⟨rfl, rfl, .inr rfl⟩

/-- The position after a firing lies within the segment again (R70). -/
theorem Action.advanced_pos_lt {a : Action} {seg : Fin 8} {pos : Nat} (h : a.advanced st = .pattern seg pos) :
    ∃ old, a = .pattern seg old ∧ ∀ g, st.segments[seg] = some g → old < g.length → pos < g.length := by
  cases a with
  | pattern seg' old =>
    rw [Action.advanced, Action.pattern.injEq] at h
    obtain ⟨rfl, rfl⟩ := h
    refine ⟨old, rfl, fun g hg hold => ?_⟩
    simp only [hg, Option.any_some, decide_eq_true_eq]
    split <;> omega
  | _ => cases h

theorem Entry.SegmentOk.continues (h : e₀.SegmentOk st) (hc : e₀.Continues st e) : e.SegmentOk st := by
  intro seg pos ha
  rw [hc.port]
  obtain hsame | hmoved := hc.action
  · exact h seg pos (hsame ▸ ha)
  · obtain ⟨old, ha₀, hlt⟩ := Action.advanced_pos_lt (hmoved ▸ ha)
    obtain ⟨g, hg, hown, hpos⟩ := h seg old ha₀
    exact ⟨g, hg, hown, hlt g hg hpos⟩

theorem Entry.LinesOwned.continues (h : e₀.LinesOwned s) (hc : e₀.Continues st e) : e.LinesOwned s := by
  intro k hk
  rw [hc.port]
  exact h k (hc.lines ▸ hk)

/-! ### The entry that an entry continues -/

/-- The entry that an entry of slot i continues after the step c: the one that stood there, or one that the SCHEDULE c
admits, whose segment and lines are its port's (R45, R46). -/
inductive EntrySource (c : Instr) (s : State) (i : SlotId) (e₀ : Entry) : Prop
  | stood (old : s.entry i = some e₀)
  | admitted (p : PortId) (command : c = .schedule p) (segment : e₀.SegmentOk s.store) (lines : e₀.LinesOwned s)

theorem EntrySource.segmentOk (h : EntrySource c s i e₀) (hs : SegmentLaw s) : e₀.SegmentOk s.store := by
  cases h with
  | stood old => exact (segmentLaw_iff s).1 hs i e₀ old
  | admitted p command segment lines => exact segment

theorem EntrySource.linesOwned (h : EntrySource c s i e₀) (hs : OwnershipLaw s) : e₀.LinesOwned s := by
  cases h with
  | stood old => exact (ownershipLaw_iff s).1 hs i e₀ old
  | admitted p command segment lines => exact lines

/-- Every entry of t continues one of s, or one that the step c admits. -/
def EntriesContinue (c : Instr) (s t : State) : Prop :=
  ∀ i e, t.entry i = some e → ∃ e₀, e₀.Continues s.store e ∧ EntrySource c s i e₀

theorem EntriesContinue.of_slots (h : t.schedule.slots = s.schedule.slots) : EntriesContinue c s t := by
  intro i e he
  rw [State.entry, State.slot, h] at he
  exact ⟨e, .refl e, .stood he⟩

theorem EntriesContinue.then_same (h : EntriesContinue c s t) (h' : u.schedule.slots = t.schedule.slots) :
    EntriesContinue c s u := by
  intro i e he
  rw [State.entry, State.slot, h'] at he
  exact h i e he

theorem EntriesContinue.endEntry (s : State) (i : SlotId) : EntriesContinue c s (s.endEntry i) := by
  intro j e he
  rw [State.endEntry_entry] at he
  split at he
  · cases he
  · exact ⟨e, .refl e, .stood he⟩

theorem EntriesContinue.place (h : EntrySource c s i e₀) (hc : e₀.Continues s.store e) :
    EntriesContinue c s (s.place i e) := by
  intro j e' he
  rw [State.place, State.setSlot_entry] at he
  split at he
  · next hj =>
    subst hj
    cases he
    exact ⟨e₀, hc, h⟩
  · exact ⟨e', .refl e', .stood he⟩

theorem EntriesContinue.fire (late : Bool) (h : EntrySource c s i e) : EntriesContinue c s (s.fire i e late) := by
  obtain hs | ⟨remaining, -, hs⟩ := s.fire_slots i e late
  · exact (EntriesContinue.endEntry s i).then_same hs
  · exact (EntriesContinue.place h (.rescheduled e remaining _)).then_same hs

theorem EntriesContinue.cancelEntries (s : State) (p : PortId) (f : Entry → Bool) (cause : Option CancelCause) :
    EntriesContinue c s (s.cancelEntries p f cause) := by
  obtain ⟨ports, h⟩ := s.cancelEntries_frame p f cause
  intro i e he
  rw [h] at he
  simp only [State.entry, State.slot, Fin.getElem_fin, Vector.getElem_map, cancelSlot] at he
  split at he
  · cases he
  · exact ⟨e, .refl e, .stood he⟩

theorem EntriesContinue.releaseRequest (s : State) (r : ReleaseRequest) (l : List SlotId) (rr : List ReleaseRequest) :
    EntriesContinue c s (l.foldl (State.releaseSlot r) { s with releaseRequests := rr }) := by
  have hstart : ReleasedFrom r.tick s { s with releaseRequests := rr } := fun _ _ he => .inl he
  intro i e he
  obtain hold | ⟨e₀, _, _, _, _, hold, _, rfl⟩ := hstart.foldl l i e he
  · exact ⟨e, .refl e, .stood hold⟩
  · exact ⟨e₀, ⟨rfl, rfl, .inl rfl⟩, .stood hold⟩

/-! ### SCHEDULE -/

/-- What SCHEDULE comes to (R44 to R47): a refusal, a wait behind the replies to the line table, or the creation of an
entry whose position, lines and segment have been checked. -/
theorem State.takeSchedule_cases (s : State) (p : PortId) (a : ScheduleArgs) :
    (∃ status, s.takeSchedule p a = s.finish p status .empty) ∨ s.takeSchedule p a = s ∨
    ∃ pl i, a.plan = some pl ∧ s.positionInRange pl.action = true ∧ s.ownershipFor p pl = true ∧ s.entry i = none ∧
      s.takeSchedule p a = s.create p i pl := by
  unfold State.takeSchedule
  split
  · exact .inl ⟨_, rfl⟩
  · next pl hplan =>
    split
    · exact .inl ⟨_, rfl⟩
    · next hposition =>
      split
      · exact .inr (.inl rfl)
      · split
        · exact .inl ⟨_, rfl⟩
        · next howned =>
          split
          · exact .inl ⟨_, rfl⟩
          · next i hfree =>
            exact .inr (.inr ⟨pl, i, hplan, by simpa using hposition, by simpa using howned,
              by simpa using List.find?_some hfree, rfl⟩)

theorem State.positionInRange_iff (s : State) (a : Action) : s.positionInRange a = true ↔
    ∀ seg pos g, a = .pattern seg pos → s.store.segments[seg] = some g → pos < g.length := by
  cases a with
  | pattern segment position =>
    simp only [State.positionInRange, Option.all_eq_true, decide_eq_true_eq, Action.pattern.injEq]
    exact ⟨fun h seg pos g ⟨hs, hp⟩ hg => by subst hs; subst hp; exact h g hg, fun h g hg => h _ _ g ⟨rfl, rfl⟩ hg⟩
  | _ => simp [State.positionInRange]

theorem State.segmentOf_isSome_iff (s : State) (p : PortId) (k : Fin 8) :
    (s.segmentOf p k).isSome = true ↔ ∃ g, s.store.segments[k] = some g ∧ g.owner = p := by
  unfold State.segmentOf
  cases hk : s.store.segments[k] with
  | none => simp
  | some g => by_cases hg : g.owner = p <;> simp [hg]

theorem State.ownershipFor_iff (s : State) (p : PortId) (pl : Plan) : s.ownershipFor p pl = true ↔
    (∀ k, hasLine pl.lines k = true → (s.line k).owner = some p ∧ (s.line k).held = false) ∧
    ∀ seg pos, pl.action = .pattern seg pos → ∃ g, s.store.segments[seg] = some g ∧ g.owner = p := by
  rw [State.ownershipFor, Bool.and_eq_true, State.ownsForEntry_iff]
  refine and_congr Iff.rfl ?_
  cases pl.action with
  | pattern segment position =>
    simp only [State.segmentOf_isSome_iff, Action.pattern.injEq]
    exact ⟨fun h seg pos ⟨hs, _⟩ => hs ▸ h, fun h => h _ _ ⟨rfl, rfl⟩⟩
  | _ => simp

/-- The entry of a SCHEDULE that passes its checks stands on its port's segment and lines. -/
theorem EntrySource.of_checks {pl : Plan} (hposition : s.positionInRange pl.action = true)
    (howned : s.ownershipFor p pl = true) (i : SlotId) (state : EntryState) (lp : Option LatePolicy) :
    EntrySource (.schedule p) s i (pl.entry p state lp) := by
  obtain ⟨hlines, hsegment⟩ := (s.ownershipFor_iff p pl).1 howned
  refine .admitted p rfl (fun seg pos ha => ?_) fun k hk => (hlines k hk).1
  obtain ⟨g, hg, hown⟩ := hsegment seg pos ha
  exact ⟨g, hg, hown, (s.positionInRange_iff _).1 hposition seg pos g ha hg⟩

theorem State.create_entriesContinue {pl : Plan} (i : SlotId)
    (h : ∀ state lp, EntrySource (.schedule p) s i (pl.entry p state lp)) :
    EntriesContinue (.schedule p) s (s.create p i pl) := by
  unfold State.create State.createWaiting State.createTimed
  split
  · split
    · exact .of_slots rfl
    · exact (EntriesContinue.place (h _ _) (.refl _)).then_same rfl
  · split
    · exact .of_slots rfl
    · exact (EntriesContinue.place (h _ _) (.refl _)).then_same rfl
  · split
    · split
      · exact .of_slots rfl
      · exact (EntriesContinue.place (h _ _) (.refl _)).then_same rfl
    · split
      · exact .of_slots rfl
      · unfold State.createFireNow
        dsimp only
        split
        · exact (EntriesContinue.fire true (h _ _)).then_same rfl
        · split
          · exact .of_slots rfl
          · exact (EntriesContinue.fire true (h _ _)).then_same rfl

theorem State.takeSchedule_entriesContinue (s : State) (p : PortId) (a : ScheduleArgs) :
    EntriesContinue (.schedule p) s (s.takeSchedule p a) := by
  obtain ⟨status, h⟩ | h | ⟨pl, i, -, hposition, howned, -, h⟩ := s.takeSchedule_cases p a
  · exact h ▸ .of_slots rfl
  · exact .of_slots (congrArg (fun t : State => t.schedule.slots) h)
  · rw [h]
    exact s.create_entriesContinue i (.of_checks hposition howned i)

/-- Every entry after a step continues one that stood in its slot before, or one that the step admits. -/
theorem exec_entriesContinue (h : exec c s = .next t) : EntriesContinue c s t := by
  by_cases hw : c.writesSlots = false
  · exact .of_slots ((exec_next_frame h).slots hw)
  suffices Yields (exec c s) (EntriesContinue c s) from this.of_next h
  cases c with
  | schedule p =>
    show Yields (execSchedule p s) _
    unfold execSchedule
    split
    · exact .next (s.takeSchedule_entriesContinue p _)
    · exact .next (.of_slots rfl)
  | cancel p =>
    show Yields (execCancel p s) _
    unfold execCancel State.takeCancel
    split
    · split
      · exact .next (.of_slots rfl)
      · exact .next ((EntriesContinue.endEntry s _).then_same rfl)
    · exact .next (.of_slots rfl)
  | expiry i =>
    show Yields (execExpiry i s) _
    unfold execExpiry
    split
    · next e he =>
      split
      · exact .next (.fire false (.stood ((s.fallenDue_iff i e).1 he).1))
      · exact .next (.of_slots rfl)
    · exact .next (.of_slots rfl)
  | scheduleUnitTick =>
    obtain hwait | ⟨d, rest, -, -, hnext⟩ := execScheduleUnitTick_cases s
    · exact ⟨s, hwait, .of_slots rfl⟩
    · refine ⟨_, hnext, fun i e he => ?_⟩
      rw [ScheduleUnit.tick_entry, Option.map_eq_some_iff] at he
      obtain ⟨e₀, hold, rfl⟩ := he
      exact ⟨e₀, .unmarked e₀, .stood hold⟩
  | releaseRequest input =>
    show Yields (execReleaseRequest input s) _
    unfold execReleaseRequest
    split
    · exact .next (.releaseRequest s _ _ _)
    · exact .next (.of_slots rfl)
  | releaseCancellationRequest p =>
    show Yields (execReleaseCancellationRequest p s) _
    unfold execReleaseCancellationRequest
    split
    · exact .next ((EntriesContinue.cancelEntries s p _ _).then_same rfl)
    · exact .next (.of_slots rfl)
  | orphanRequest p =>
    show Yields (execOrphanRequest p s) _
    unfold execOrphanRequest
    split
    · exact .next ((EntriesContinue.cancelEntries s p _ _).then_same rfl)
    · exact .next (.of_slots rfl)
  | partingRequest p =>
    show Yields (execPartingRequest p s) _
    unfold execPartingRequest
    split
    · exact .next ((EntriesContinue.cancelEntries s p _ _).then_same rfl)
    · exact .next (.of_slots rfl)
  | resetAssertion => exact .next fun i e he => by simp at he
  | _ => exact absurd rfl hw

/-! ### The segments -/

/-- The records of the segments that pending entries name stay as they were (R95). -/
def SegmentsStay (s t : State) : Prop :=
  ∀ i e, s.entry i = some e → ∀ (seg : Fin 8) pos g, e.action = .pattern seg pos → s.store.segments[seg] = some g →
    g.owner = e.port → t.store.segments[seg] = some g

theorem SegmentsStay.of_eq (h : t.store.segments = s.store.segments) : SegmentsStay s t := by
  intro i e _ seg pos g _ hg _
  rwa [h]

theorem SegmentsStay.entry {i : SlotId} (h : SegmentsStay s t) (he : s.entry i = some e) (hok : e.SegmentOk s.store) :
    e.SegmentOk t.store := by
  intro seg pos ha
  obtain ⟨g, hg, hown, hpos⟩ := hok seg pos ha
  exact ⟨g, h i e he seg pos g ha hg hown, hown, hpos⟩

theorem PatternStore.freeRecord_spec {k : Fin 8} (h : st.freeRecord = some k) : st.segments[k] = none := by
  simpa using List.find?_some h

/-- An allocation takes a free record (R92). -/
theorem State.takeAlloc_segmentsStay (s : State) (p : PortId) (length : BitVec 16) :
    SegmentsStay s (s.takeAlloc p length) := by
  unfold State.takeAlloc
  dsimp only
  split
  · exact .of_eq rfl
  · split
    · exact .of_eq rfl
    · next k hk =>
      split
      · exact .of_eq rfl
      · intro i e _ seg pos g _ hg _
        have hne : k.val ≠ seg.val := fun heq => by
          rw [← Fin.ext heq, PatternStore.freeRecord_spec hk] at hg
          cases hg
        simpa [Vector.getElem_set_ne _ _ hne] using hg

/-- FREE frees a record that no pending entry names (R95). -/
theorem State.takeFree_segmentsStay (s : State) (p : PortId) (segment : Byte) :
    SegmentsStay s (s.takeFree p segment) := by
  unfold State.takeFree
  split
  · exact .of_eq rfl
  · next k _ =>
    split
    · exact .of_eq rfl
    · split
      · exact .of_eq rfl
      · next href =>
        intro i e he seg pos g ha hg _
        have hne : k.val ≠ seg.val := fun heq =>
          href ((s.segmentReferenced_iff k).2 ⟨i, e, pos, he, Fin.ext heq ▸ ha⟩)
        simpa [Vector.getElem_set_ne _ _ hne] using hg

theorem PatternStore.freeAllOf_segment (st : PatternStore) (p : PortId) (k : Fin 8) :
    (st.freeAllOf p).segments[k] = if st.segments[k].any (fun g => decide (g.owner = p)) then none else st.segments[k] := by
  simp [PatternStore.freeAllOf]

/-- The free step of a parting frees the records of a port that has no entry left (R102, R174). -/
theorem SegmentsStay.freeAllOf (h : ∀ i e, s.entry i = some e → e.port ≠ p) (n : Nat) :
    SegmentsStay s ({ s with store := s.store.freeAllOf p }.replyParting p n) := by
  intro i e he seg pos g _ hg hown
  show (s.store.freeAllOf p).segments[seg] = some g
  rw [PatternStore.freeAllOf_segment, hg, if_neg]
  simpa [hown] using h i e he

theorem exec_segmentsStay (hfree : ∀ p, c = .freeStep p → ∀ i e, s.entry i = some e → e.port ≠ p)
    (hr : c ≠ .resetAssertion) (h : exec c s = .next t) : SegmentsStay s t := by
  by_cases hw : c.writesSegments = false
  · exact .of_eq ((exec_next_frame h).segments hw)
  suffices Yields (exec c s) (SegmentsStay s) from this.of_next h
  cases c with
  | alloc p =>
    show Yields (execAlloc p s) _
    unfold execAlloc
    split
    · exact .next (s.takeAlloc_segmentsStay p _)
    · exact .next (.of_eq rfl)
  | free p =>
    show Yields (execFree p s) _
    unfold execFree
    split
    · exact .next (s.takeFree_segmentsStay p _)
    · exact .next (.of_eq rfl)
  | freeStep p =>
    show Yields (execFreeStep p s) _
    unfold execFreeStep
    split
    · exact .next (.freeAllOf (hfree p rfl) _)
    · exact .next (.of_eq rfl)
  | resetAssertion => exact absurd rfl hr
  | _ => exact absurd rfl hw

theorem Instr.not_writesSegments_of_writesSlots (h : c.writesSlots = true) (hr : c ≠ .resetAssertion) :
    c.writesSegments = false := by
  cases c <;> simp_all [Instr.writesSlots, Instr.writesSegments]

theorem SegmentLaw.of_no_entry (h : ∀ i, s.entry i = none) : SegmentLaw s := fun i e _ _ he => by simp [h i] at he

theorem OwnershipLaw.of_no_entry (h : ∀ i, s.entry i = none) : OwnershipLaw s := fun i e _ he => by simp [h i] at he

/-- A step that changes slots leaves the segment records, and one that changes those leaves the entries. -/
theorem exec_keeps_segmentLaw (hs : SegmentLaw s) (h : exec c s = .next t)
    (hfree : ∀ p, c = .freeStep p → ∀ i e, s.entry i = some e → e.port ≠ p) : SegmentLaw t := by
  by_cases hr : c = .resetAssertion
  · subst hr
    cases h
    exact .of_no_entry s.assertReset_entry
  refine (segmentLaw_iff t).2 fun i e he => ?_
  cases hw : c.writesSlots with
  | false =>
    rw [State.entry, State.slot, (exec_next_frame h).slots hw] at he
    exact (exec_segmentsStay hfree hr h).entry he ((segmentLaw_iff s).1 hs i e he)
  | true =>
    obtain ⟨e₀, hcontinues, hsource⟩ := exec_entriesContinue h i e he
    have hsegments := (exec_next_frame h).segments (Instr.not_writesSegments_of_writesSlots hw hr)
    unfold Entry.SegmentOk
    rw [hsegments]
    exact (hsource.segmentOk hs).continues hcontinues

/-! ### The lines -/

/-- A line record keeps its owner, and one that no port owns keeps its level and its safe level. -/
structure Line.Keeps (l l' : Line) : Prop where
  owner : ∀ q, l.owner = some q → l'.owner = some q
  unowned : l'.owner = none → l'.level = l.level ∧ l'.safeLevel = l.safeLevel

theorem Line.Keeps.refl (l : Line) : l.Keeps l := ⟨fun _ h => h, fun _ => ⟨rfl, rfl⟩⟩

theorem Line.Keeps.held (l : Line) : l.Keeps { l with held := true } := ⟨fun _ h => h, fun _ => ⟨rfl, rfl⟩⟩

theorem Line.Keeps.driven {l : Line} {q : PortId} (h : l.owner = some q) (level : Bool) :
    l.Keeps { l with level := level } := ⟨fun _ h => h, fun hn => by simp [h] at hn⟩

theorem Line.Keeps.claimed {l : Line} (h : ∀ q, l.owner = some q → q = p) (safeLevel : Bool) (policy : Policy) :
    l.Keeps (l.claimed p safeLevel policy) :=
  ⟨fun q hq => congrArg some (h q hq).symm, fun hn => by simp [Line.claimed] at hn⟩

/-- Every line record keeps its owner and its safe level, but for those that the step c gives back. -/
def LinesKept (c : Instr) (s t : State) : Prop :=
  ∀ k, (s.line k).Keeps (t.line k) ∨ GivesBack s c k ∧ t.line k = (s.line k).safeReturn

theorem LinesKept.of_eq (h : t.lines = s.lines) : LinesKept c s t := by
  intro k
  rw [State.line, State.line, h]
  exact .inl (.refl _)

theorem LinesKept.then_same (h : LinesKept c s t) (h' : u.lines = t.lines) : LinesKept c s u := by
  intro k
  show (s.line k).Keeps u.lines[k] ∨ _ ∧ u.lines[k] = _
  rw [h']
  exact h k

/-- A change of the lines of a set, each of which keeps its owner. -/
theorem LinesKept.updLines {ls : LineSet} {f : Fin 16 → Line → Line}
    (h : ∀ k, hasLine ls k = true → (s.line k).Keeps (f k (s.line k))) :
    LinesKept c s (s.updLines fun k l => if hasLine ls k then f k l else l) := by
  intro k
  rw [State.updLines_line]
  split
  · next hk => exact .inl (h k hk)
  · exact .inl (.refl _)

theorem LinesKept.returnLines {f : Fin 16 → Line → Bool} (h : ∀ k, f k (s.line k) = true → GivesBack s c k) :
    LinesKept c s (s.returnLines f) := by
  intro k
  rw [State.returnLines_line]
  split
  · next hk => exact .inr ⟨h k hk, rfl⟩
  · exact .inl (.refl _)

theorem LinesKept.fire (late : Bool) (h : e.LinesOwned s) : LinesKept c s (s.fire i e late) :=
  (LinesKept.updLines fun k hk => .driven (h k hk) _).then_same (s.fire_lines i e late)

theorem State.takeClaim_linesKept (s : State) (p : PortId) (ls : LineSet) (safeLevels : LevelSet) (policy : Byte) :
    LinesKept c s (s.takeClaim p ls safeLevels policy) := by
  unfold State.takeClaim
  split
  · exact .of_eq rfl
  · next pol _ =>
    split
    · exact .of_eq rfl
    · split
      · exact .of_eq rfl
      · next hconflict =>
        have hfree := (s.conflicting_eq_zero_iff p ls).1 (not_not.1 hconflict)
        exact (LinesKept.updLines (f := fun k l => l.claimed p (hasLine safeLevels k) pol)
          fun k hk => .claimed (fun q => hfree k q hk) _ _).then_same rfl

theorem State.takeRelease_linesKept (s : State) (p : PortId) (ls : LineSet) : LinesKept c s (s.takeRelease p ls) := by
  unfold State.takeRelease
  split
  · exact .of_eq rfl
  · split
    · exact .of_eq rfl
    · exact (LinesKept.updLines (f := fun _ l => { l with held := true }) fun k _ => .held _).then_same rfl

theorem State.takeDrive_linesKept (s : State) (p : PortId) (ls : LineSet) (levels : LevelSet) :
    LinesKept c s (s.takeDrive p ls levels) := by
  unfold State.takeDrive
  split
  · exact .of_eq rfl
  · split
    · exact .of_eq rfl
    · next howns =>
      have hown := (s.ownsAll_iff p ls).1 (by simpa using howns)
      exact (LinesKept.updLines (f := fun k l => { l with level := hasLine levels k })
        fun k hk => .driven (hown k hk) _).then_same rfl

theorem State.create_linesKept {pl : Plan} (i : SlotId) (h : ∀ state lp, (pl.entry p state lp).LinesOwned s) :
    LinesKept c s (s.create p i pl) := by
  unfold State.create State.createWaiting State.createTimed
  split
  · split <;> exact .of_eq rfl
  · split <;> exact .of_eq rfl
  · split
    · split <;> exact .of_eq rfl
    · split
      · exact .of_eq rfl
      · unfold State.createFireNow
        dsimp only
        split
        · exact (LinesKept.fire true (h _ _)).then_same rfl
        · split
          · exact .of_eq rfl
          · exact (LinesKept.fire true (h _ _)).then_same rfl

theorem State.takeSchedule_linesKept (s : State) (p : PortId) (a : ScheduleArgs) :
    LinesKept c s (s.takeSchedule p a) := by
  obtain ⟨status, h⟩ | h | ⟨pl, i, -, -, howned, -, h⟩ := s.takeSchedule_cases p a
  · exact h ▸ .of_eq rfl
  · exact .of_eq (congrArg State.lines h)
  · rw [h]
    exact s.create_linesKept i fun state lp k hk => (((s.ownershipFor_iff p pl).1 howned).1 k hk).1

theorem LinesKept.completeRelease (s : State) (p : PortId) (cancelled : Nat) :
    LinesKept (.releaseCompletion p) s (s.completeRelease p cancelled) := by
  refine LinesKept.then_same (LinesKept.returnLines fun k hk => ?_) (State.updPort_lines _ _ _)
  simp only [Bool.and_eq_true, decide_eq_true_eq] at hk
  obtain ⟨⟨hline, hown⟩, hheld⟩ := hk
  refine ⟨p, hown, .inl ⟨rfl, hheld, ?_⟩⟩
  cases hrel : (s.port p).releasing with
  | none => simp [hrel] at hline
  | some ls => exact ⟨ls, rfl, by simpa [hrel] using hline⟩

theorem LinesKept.completeOrphan (s : State) (p : PortId) :
    LinesKept (.orphanCompletion p) s (s.completeOrphan p) := by
  refine LinesKept.then_same (LinesKept.returnLines fun k hk => ?_) (State.updPort_lines _ _ _)
  simp only [Bool.and_eq_true, decide_eq_true_eq] at hk
  obtain ⟨hline, hown⟩ := hk
  refine ⟨p, hown, .inr (.inl ⟨rfl, ?_⟩)⟩
  cases hsafe : (s.port p).orphanSafe with
  | none => simp [hsafe] at hline
  | some ls => exact ⟨ls, rfl, by simpa [hsafe] using hline⟩

theorem exec_linesKept (hs : OwnershipLaw s) (hr : c ≠ .resetAssertion) (h : exec c s = .next t) : LinesKept c s t := by
  by_cases hw : c.writesLines = false
  · exact .of_eq ((exec_next_frame h).lines hw)
  suffices Yields (exec c s) (LinesKept c s) from this.of_next h
  cases c with
  | claim p =>
    show Yields (execClaim p s) _
    unfold execClaim
    split
    · exact .next (s.takeClaim_linesKept p _ _ _)
    · exact .next (.of_eq rfl)
  | release p =>
    show Yields (execRelease p s) _
    unfold execRelease
    split
    · exact .next (s.takeRelease_linesKept p _)
    · exact .next (.of_eq rfl)
  | drive p =>
    show Yields (execDrive p s) _
    unfold execDrive
    split
    · exact .next (s.takeDrive_linesKept p _ _)
    · exact .next (.of_eq rfl)
  | schedule p =>
    show Yields (execSchedule p s) _
    unfold execSchedule
    split
    · exact .next (s.takeSchedule_linesKept p _)
    · exact .next (.of_eq rfl)
  | expiry i =>
    show Yields (execExpiry i s) _
    unfold execExpiry
    split
    · next e he =>
      have howned := (ownershipLaw_iff s).1 hs i e ((s.fallenDue_iff i e).1 he).1
      split
      · exact .next (.fire false howned)
      · exact .next (.of_eq rfl)
    · exact .next (.of_eq rfl)
  | releaseCompletion p =>
    show Yields (execReleaseCompletion p s) _
    unfold execReleaseCompletion
    split
    · next cancelled rest _ =>
      split
      · exact .next (LinesKept.completeRelease { s with scheduleToLines := rest } p cancelled)
      · exact .next (.of_eq rfl)
    · exact .next (.of_eq rfl)
  | orphanCompletion p =>
    show Yields (execOrphanCompletion p s) _
    unfold execOrphanCompletion
    split
    · next rest _ =>
      split
      · exact .next (LinesKept.completeOrphan { s with scheduleToLines := rest } p)
      · exact .next (.of_eq rfl)
    · exact .next (.of_eq rfl)
  | lineStep p =>
    show Yields (execLineStep p s) _
    unfold execLineStep
    split
    · refine .next (LinesKept.then_same (LinesKept.returnLines fun k hk => ?_) (State.updWires_lines _ _ _))
      exact ⟨p, by simpa using hk, .inr (.inr rfl)⟩
    · exact .next (.of_eq rfl)
  | resetAssertion => exact absurd rfl hr
  | _ => exact absurd rfl hw

theorem not_givesBack_schedule (s : State) (p : PortId) (k : Fin 16) : ¬ GivesBack s (.schedule p) k := by
  rintro ⟨q, -, ⟨h, -⟩ | ⟨h, -⟩ | h⟩ <;> cases h

/-- No line that the entry of a source stands on is given back. -/
theorem EntrySource.not_givesBack (h : EntrySource c s i e₀) {k : Fin 16} (hk : hasLine e₀.lines k = true)
    (hback : GivesBack s c k → ∀ i e, s.entry i = some e → hasLine e.lines k = false) : ¬ GivesBack s c k := by
  cases h with
  | stood old => exact fun hg => by simp [hback hg i e₀ old] at hk
  | admitted p command segment lines => exact command ▸ not_givesBack_schedule s p k

theorem exec_keeps_ownershipLaw (hs : OwnershipLaw s) (hr : c ≠ .resetAssertion) (h : exec c s = .next t)
    (hback : ∀ k, GivesBack s c k → ∀ i e, s.entry i = some e → hasLine e.lines k = false) : OwnershipLaw t := by
  intro i e k he hk
  obtain ⟨e₀, hcontinues, hsource⟩ := exec_entriesContinue h i e he
  have hk₀ : hasLine e₀.lines k = true := hcontinues.lines ▸ hk
  obtain hkeeps | ⟨hgives, -⟩ := exec_linesKept hs hr h k
  · exact hkeeps.owner _ ((hsource.linesOwned hs).continues hcontinues k hk)
  · exact absurd hgives (hsource.not_givesBack hk₀ (hback k))

theorem exec_keeps_safeLevelLaw (howned : OwnershipLaw s) (hs : SafeLevelLaw s) (hr : c ≠ .resetAssertion)
    (h : exec c s = .next t) : SafeLevelLaw t := by
  intro k hnone
  obtain hkeeps | ⟨-, hreturned⟩ := exec_linesKept howned hr h k
  · obtain ⟨hlevel, hsafe⟩ := hkeeps.unowned hnone
    have hunowned : (s.line k).owner = none :=
      Option.eq_none_iff_forall_ne_some.2 fun q hq => by simp [hkeeps.owner q hq] at hnone
    rw [hlevel, hsafe]
    exact hs k hunowned
  · rw [hreturned]
    rfl

/-- Settles O58: an entry after a step continues one that stood, or one that SCHEDULE has checked; its segment stays, and
its lines keep their owner unless the step gives them back. -/
theorem commandsKeepEntriesOwned : Obligations.CommandsKeepEntriesOwned := by
  refine ⟨fun c s t hs h hfree => exec_keeps_segmentLaw hs h hfree, fun c s t howned hsafe h hback => ?_⟩
  by_cases hr : c = .resetAssertion
  · subst hr
    cases h
    exact ⟨.of_no_entry s.assertReset_entry, fun k _ => by simp [Line.reset]⟩
  · exact ⟨exec_keeps_ownershipLaw howned hr h hback, exec_keeps_safeLevelLaw howned hsafe hr h⟩

end Sys2Proof.Machine
end

section
/-! SUPPORT. The line table: CLAIM, RELEASE, DRIVE, the firing actions, orphan processing at the line table, and the line,
free and subscription steps of a parting. -/

namespace Sys2Proof.Machine

variable {s : State} {p : PortId} {ls : LineSet}

/-! ### Safe returns -/

/-- A change of line records by safe returns is the state with new records, each returned or as it was (R26). -/
theorem State.returnLines_spec (s : State) (f : Fin 16 → Line → Bool) : ∃ records : Vector Line 16,
    s.returnLines f = { s with lines := records } ∧
    ∀ k : Fin 16, records[k] = if f k (s.line k) = true then returned (s.line k) else s.line k := s.updLines_spec _

/-! ### CLAIM -/

theorem policyOf_of_lt {b : Byte} (h : 2 < b.toNat) : policyOf b = none := by
  have h0 : b ≠ 0 := by bv_omega
  have h1 : b ≠ 1 := by bv_omega
  have h2 : b ≠ 2 := by bv_omega
  rw [policyOf, if_neg h0, if_neg h1, if_neg h2]

theorem exists_policyOf {b : Byte} (h : b.toNat ≤ 2) : ∃ pol, policyOf b = some pol := by
  have hb : b = 0 ∨ b = 1 ∨ b = 2 := by bv_omega
  obtain rfl | rfl | rfl := hb <;> exact ⟨_, rfl⟩

theorem exec_claim_of_requested {safeLevels : LevelSet} {policy : Byte}
    (h : Requested s p (.claim ls safeLevels policy)) :
    exec (.claim p) s = .next (s.takeClaim p ls safeLevels policy) := by
  show execClaim p s = _
  rw [execClaim, (s.request_iff p _).2 h]

theorem State.takeClaim_of_badArg (safeLevels : LevelSet) {policy : Byte} (h : ls = 0 ∨ 2 < policy.toNat) :
    s.takeClaim p ls safeLevels policy = s.finish p .badArg .empty := by
  unfold State.takeClaim
  split
  · rfl
  · next hpol =>
    obtain hzero | hlarge := h
    · rw [if_pos hzero]
    · simp [policyOf_of_lt hlarge] at hpol

theorem State.takeClaim_of_policy (safeLevels : LevelSet) {policy : Byte} {pol : Policy} (hne : ls ≠ 0)
    (hpol : policyOf policy = some pol) : s.takeClaim p ls safeLevels policy =
      if s.conflicting p ls ≠ 0 then s.finish p .held (.held (s.conflicting p ls))
      else (s.updLines fun k l => if hasLine ls k then l.claimed p (hasLine safeLevels k) pol else l).finish p .ok
        (.claim (s.unowned ls)) := by
  simp only [State.takeClaim, hpol]
  rw [if_neg hne]

theorem State.hasLine_unowned (s : State) (ls : LineSet) (k : Fin 16) :
    hasLine (s.unowned ls) k = true ↔ hasLine ls k = true ∧ (s.line k).owner = none := by
  simp [State.unowned]

/-- Settles O10, by the checks of `takeClaim` in their order. -/
theorem claimIsAllOrNothing : Obligations.ClaimIsAllOrNothing := by
  refine ⟨fun p ls safeLevels policy s hreq => ⟨fun hbad => ?_, fun hne hle hheld => ?_⟩,
    fun p ls safeLevels policy pol s hreq hne hpolicy hfree => ?_⟩
  · rw [exec_claim_of_requested hreq, State.takeClaim_of_badArg safeLevels hbad]
  · obtain ⟨pol, hpol⟩ := exists_policyOf hle
    obtain ⟨k, q, hk, hq, hqp⟩ := hheld
    have hconflict : s.conflicting p ls ≠ 0 := fun h => hqp ((s.conflicting_eq_zero_iff p ls).1 h k q hk hq)
    refine ⟨s.conflicting p ls, ?_, s.hasLine_conflicting p ls⟩
    rw [exec_claim_of_requested hreq, State.takeClaim_of_policy safeLevels hne hpol, if_pos hconflict]
  · have hpol : policyOf policy = some pol := by
      obtain ⟨rfl, rfl⟩ | ⟨rfl, rfl⟩ | ⟨rfl, rfl⟩ := hpolicy <;> rfl
    have hconflict : s.conflicting p ls = 0 := (s.conflicting_eq_zero_iff p ls).2 fun k q hk hq => by
      obtain hnone | hown := hfree k hk
      · simp [hq] at hnone
      · simpa [hq] using hown
    obtain ⟨records, hrecords, hget⟩ :=
      s.updLines_spec fun k l => if hasLine ls k then l.claimed p (hasLine safeLevels k) pol else l
    refine ⟨records, s.unowned ls, ?_, s.hasLine_unowned ls, hget⟩
    rw [exec_claim_of_requested hreq, State.takeClaim_of_policy safeLevels hne hpol, if_neg (not_not.2 hconflict),
      hrecords]
    rfl

/-! ### RELEASE -/

theorem exec_release_of_requested (h : Requested s p (.release ls)) :
    exec (.release p) s = .next (s.takeRelease p ls) := by
  show execRelease p s = _
  rw [execRelease, (s.request_iff p _).2 h]

/-- A line of the set that is not the port's stops a RELEASE and a DRIVE (R23, R31). -/
theorem State.not_ownsAll (h : ∃ k, hasLine ls k = true ∧ (s.line k).owner ≠ some p) : (!s.ownsAll p ls) = true := by
  obtain ⟨k, hk, hne⟩ := h
  rw [Bool.not_eq_true', ← Bool.not_eq_true, State.ownsAll_iff]
  exact fun hall => hne (hall k hk)

theorem State.not_not_ownsAll (h : ∀ k, hasLine ls k = true → (s.line k).owner = some p) :
    ¬ (!s.ownsAll p ls) = true := by
  simpa using (s.ownsAll_iff p ls).2 h

theorem exec_releaseCompletion_of_reply {n : Nat} {rest : List LineReply}
    (h : s.scheduleToLines = .release p n :: rest) :
    exec (.releaseCompletion p) s = .next ({ s with scheduleToLines := rest }.completeRelease p n) := by
  show execReleaseCompletion p s = _
  rw [execReleaseCompletion, h]
  dsimp only
  rw [if_pos rfl]

theorem State.completeRelease_spec {n : Nat} (h : (s.port p).releasing = some ls) : ∃ records : Vector Line 16,
    s.completeRelease p n =
      { s.withPort p ({ s.port p with releasing := none }.sent .ok (.release n)) with lines := records } ∧
    ∀ k : Fin 16, records[k] =
      if hasLine ls k = true ∧ (s.line k).owner = some p ∧ (s.line k).held = true then returned (s.line k)
      else s.line k := by
  obtain ⟨records, hrecords, hget⟩ :=
    s.returnLines_spec fun k l => hasLine ls k && decide (l.owner = some p) && l.held
  refine ⟨records, ?_, fun k => by simpa [and_assoc] using hget k⟩
  simp only [State.completeRelease, h, Option.getD_some, hrecords]
  rfl

/-- Settles O11: the first event is `takeRelease`, the second `completeRelease` of the reply that stands first. -/
theorem releaseTakesTwoEvents : Obligations.ReleaseTakesTwoEvents := by
  refine ⟨fun p ls s hreq => ⟨fun hzero => ?_, fun hne hother => ?_⟩, fun p ls s hreq hne hown => ?_,
    fun p ls n rest s hreply hreleasing => ?_⟩
  · rw [exec_release_of_requested hreq, State.takeRelease, if_pos hzero]
  · rw [exec_release_of_requested hreq, State.takeRelease, if_neg hne, if_pos (State.not_ownsAll hother)]
  · obtain ⟨records, hrecords, hget⟩ := s.updLines_spec fun k l => if hasLine ls k then { l with held := true } else l
    refine ⟨records, ?_, hget⟩
    rw [exec_release_of_requested hreq, State.takeRelease, if_neg hne, if_neg (State.not_not_ownsAll hown),
      State.startRelease, hrecords]
    rfl
  · obtain ⟨records, hrecords, hget⟩ :=
      State.completeRelease_spec (s := { s with scheduleToLines := rest }) (n := n) hreleasing
    exact ⟨records, (exec_releaseCompletion_of_reply hreply).trans (congrArg _ hrecords), hget⟩

/-! ### DRIVE -/

theorem exec_drive_of_requested {levels : LevelSet} (h : Requested s p (.drive ls levels)) :
    exec (.drive p) s = .next (s.takeDrive p ls levels) := by
  show execDrive p s = _
  rw [execDrive, (s.request_iff p _).2 h]

/-- Settles O12, by the checks of `takeDrive` in their order. -/
theorem driveSetsLevels : Obligations.DriveSetsLevels := by
  intro p ls levels s hreq
  rw [exec_drive_of_requested hreq, State.takeDrive]
  refine ⟨fun hzero => ?_, fun hne hother => ?_, fun hne hown => ?_⟩
  · rw [if_pos hzero]
  · rw [if_neg hne, if_pos (State.not_ownsAll hother)]
  · obtain ⟨records, hrecords, hget⟩ :=
      s.updLines_spec fun k l => if hasLine ls k then { l with level := hasLine levels k } else l
    refine ⟨records, ?_, hget⟩
    rw [if_neg hne, if_neg (State.not_not_ownsAll hown), hrecords]
    rfl

/-! ### Firing actions -/

theorem exec_expiry_behind_replies (i : SlotId) (h : s.scheduleToLines ≠ []) : exec (.expiry i) s = .next s := by
  show execExpiry i s = _
  unfold execExpiry
  split
  · rw [if_neg (mt s.repliesTaken_iff.1 h)]
  · rfl

/-- A SCHEDULE in range comes to its ownership question, and waits there for the replies sent before (R16). -/
theorem State.takeSchedule_behind_replies {a : ScheduleArgs} {pl : Plan} (h : s.scheduleToLines ≠ [])
    (hplan : a.plan = some pl) (hposition : s.positionInRange pl.action = true) : s.takeSchedule p a = s := by
  simp only [State.takeSchedule, hplan]
  rw [if_neg (by simp [hposition]), if_pos (by simpa using mt s.repliesTaken_iff.1 h)]

theorem exec_schedule_behind_replies {a : ScheduleArgs} {pl : Plan} (h : s.scheduleToLines ≠ [])
    (hreq : (s.port p).wires.request = some (.schedule a)) (hplan : a.plan = some pl)
    (hposition : s.positionInRange pl.action = true) : exec (.schedule p) s = .next s := by
  show execSchedule p s = _
  unfold execSchedule
  split
  · next a' hrequest =>
    obtain ⟨hwaits, -⟩ := (s.request_iff p _).1 hrequest
    obtain rfl : a = a' := by simpa [hreq] using hwaits
    rw [State.takeSchedule_behind_replies h hplan hposition]
  · rfl

/-- Settles O13: the records are those of `applyFiring`, and the gate is `repliesTaken`. -/
theorem firingActionReachesTheSet : Obligations.FiringActionReachesTheSet := by
  refine ⟨fun s ls action => ?_, fun i s => exec_expiry_behind_replies i, fun p a pl s hreplies hreq hplan hpos => ?_⟩
  · obtain ⟨records, hrecords, hget⟩ := s.updLines_spec fun k l =>
      if hasLine ls k then { l with level := (action.firing s.store).level k l.level } else l
    refine ⟨records, hrecords, fun k => ?_⟩
    rw [hget k]
    refine ⟨fun hk => ?_, fun hk ha => ?_, fun hk ha => ?_, fun hk ha => ?_, fun hk seg pos ha => ?_⟩
    · rw [hk, if_neg (by simp)]
    all_goals
      subst ha
      rw [if_pos hk]
      rfl
  · exact exec_schedule_behind_replies hreplies hreq hplan ((s.positionInRange_iff _).2 hpos)

/-! ### Orphan processing -/

theorem State.hasLine_linesUnder (s : State) (p : PortId) (policy : Policy) (k : Fin 16) :
    hasLine (s.linesUnder p policy) k = true ↔ (s.line k).owner = some p ∧ (s.line k).policy = some policy := by
  simp [State.linesUnder]

theorem hasLine_or (a b : LineSet) (k : Fin 16) :
    hasLine (a ||| b) k = true ↔ hasLine a k = true ∨ hasLine b k = true := by
  simp [hasLine]

theorem exec_orphanStart_of_request {more : List ToLines} (h : (s.port p).wires.toLines = .orphanStart :: more) :
    exec (.orphanStart p) s = .next (s.withPort p { s.port p with
      orphanSafe := some (s.linesUnder p .safe)
      wires := { (s.port p).wires with
        toLines := more, orphanRequest := some (s.linesUnder p .freeze ||| s.linesUnder p .safe) } }) := by
  show execOrphanStart p s = _
  rw [execOrphanStart, h]
  simp only [State.orphanStep, State.linesUnder, State.updWires_line, State.updWires_port_same, State.updPort_eq_withPort]
  rw [State.updWires, State.updPort_eq_withPort, State.withPort_withPort]

theorem exec_orphanCompletion_of_reply {rest : List LineReply} (h : s.scheduleToLines = .orphan p :: rest) :
    exec (.orphanCompletion p) s = .next ({ s with scheduleToLines := rest }.completeOrphan p) := by
  show execOrphanCompletion p s = _
  rw [execOrphanCompletion, h]
  dsimp only
  rw [if_pos rfl]

theorem State.completeOrphan_spec (h : (s.port p).orphanSafe = some ls) : ∃ records : Vector Line 16,
    s.completeOrphan p = { s.withPort p { s.port p with
      orphanSafe := none, wires := { (s.port p).wires with orphanReply := true } } with lines := records } ∧
    ∀ k : Fin 16, records[k] =
      if hasLine ls k = true ∧ (s.line k).owner = some p then returned (s.line k) else s.line k := by
  obtain ⟨records, hrecords, hget⟩ := s.returnLines_spec fun k l => hasLine ls k && decide (l.owner = some p)
  refine ⟨records, ?_, fun k => by simpa using hget k⟩
  simp only [State.completeOrphan, h, Option.getD_some, hrecords]
  rfl

/-- Settles O14: the sets named are `linesUnder` of the two policies, and the completion is `completeOrphan`. -/
theorem orphanProcessingAtTheLineTable : Obligations.OrphanProcessingAtTheLineTable := by
  refine ⟨fun p more s hstart => ?_, fun p safe rest s hreply hsafe => ?_⟩
  · refine ⟨_, _, exec_orphanStart_of_request hstart, s.hasLine_linesUnder p .safe, fun k => ?_⟩
    rw [hasLine_or, State.hasLine_linesUnder, State.hasLine_linesUnder, and_or_left]
  · obtain ⟨records, hrecords, hget⟩ := State.completeOrphan_spec (s := { s with scheduleToLines := rest }) hsafe
    exact ⟨records, (exec_orphanCompletion_of_reply hreply).trans (congrArg _ hrecords), hget⟩

/-! ### The steps of a parting -/

theorem vector_countP {α : Type} {n : Nat} (v : Vector α n) (f : α → Bool) :
    v.toList.countP f = (List.finRange n).countP fun k => f v[k] := by
  have h : v.toList = (List.finRange n).map fun k => v[k] := List.ext_getElem (by simp) fun k _ _ => by simp
  rw [h, List.countP_map]
  rfl

theorem exec_lineStep_of_request {more : List ToLines} (h : (s.port p).wires.toLines = .lineStep :: more) :
    exec (.lineStep p) s = .next ((s.returnLines fun _ l => decide (l.owner = some p)).updWires p fun w =>
      { w with toLines := more, partingReply := some (s.ownedCount p) }) := by
  show execLineStep p s = _
  rw [execLineStep, h]

theorem State.partingAt_of {pa : Parting} {step : PartingStep} (hreq : (s.port p).wires.partingRequest = true)
    (hparting : (s.port p).session.parting = some pa) (hstep : pa.step = step) : s.partingAt p step = true := by
  simp [State.partingAt, hreq, hparting, hstep]

theorem PatternStore.countOf_eq (st : PatternStore) (p : PortId) : st.countOf p =
    (List.finRange 8).countP fun k => (st.segments[k]).any fun g => decide (g.owner = p) := vector_countP _ _

theorem TriggerUnit.countOf_eq (u : TriggerUnit) (p : PortId) : u.countOf p =
    (List.finRange 8).countP fun k => (u.places[k]).any fun sub => decide (sub.port = p) := vector_countP _ _

theorem TriggerUnit.removeAllOf_place (u : TriggerUnit) (p : PortId) (k : Fin 8) : (u.removeAllOf p).places[k] =
    if u.places[k].any (fun sub => decide (sub.port = p)) then none else u.places[k] := by
  simp [TriggerUnit.removeAllOf]

theorem exec_freeStep_of_partingAt (h : s.partingAt p .segments = true) :
    exec (.freeStep p) s = .next ({ s with store := s.store.freeAllOf p }.replyParting p (s.store.countOf p)) := by
  show execFreeStep p s = _
  rw [execFreeStep, if_pos h]

theorem exec_subscriptionStep_of_partingAt (h : s.partingAt p .subscriptions = true) : exec (.subscriptionStep p) s =
    .next ({ s with trigger := s.trigger.removeAllOf p }.replyParting p (s.trigger.countOf p)) := by
  show execSubscriptionStep p s = _
  rw [execSubscriptionStep, if_pos h]

/-- Settles O15: each step gives back what the port has, and replies with the number of it. -/
theorem partingStepsGiveEverythingBack : Obligations.PartingStepsGiveEverythingBack := by
  refine ⟨fun p more s hstep => ?_, fun p pa s hreq hparting => ⟨fun hstep => ?_, fun hstep => ?_⟩⟩
  · obtain ⟨records, hrecords, hget⟩ := s.returnLines_spec fun _ l => decide (l.owner = some p)
    refine ⟨records, ?_, fun k => by simpa using hget k⟩
    rw [exec_lineStep_of_request hstep, hrecords]
    rfl
  · refine ⟨(s.store.freeAllOf p).segments, ?_, fun k => ⟨fun ⟨g, hg, hown⟩ => ?_, fun hother => ?_⟩⟩
    · rw [exec_freeStep_of_partingAt (State.partingAt_of hreq hparting hstep), PatternStore.countOf_eq]
      rfl
    · rw [PatternStore.freeAllOf_segment, hg, if_pos (by simpa using hown)]
    · rw [PatternStore.freeAllOf_segment, if_neg]
      rw [Option.any_eq_true]
      rintro ⟨g, hg, hown⟩
      exact hother g hg (of_decide_eq_true hown)
  · refine ⟨(s.trigger.removeAllOf p).places, ?_, fun k => ⟨fun ⟨sub, hsub, hport⟩ => ?_, fun hother => ?_⟩⟩
    · rw [exec_subscriptionStep_of_partingAt (State.partingAt_of hreq hparting hstep), TriggerUnit.countOf_eq]
      rfl
    · rw [TriggerUnit.removeAllOf_place, hsub, if_pos (by simpa using hport)]
    · rw [TriggerUnit.removeAllOf_place, if_neg]
      rw [Option.any_eq_true]
      rintro ⟨sub, hsub, hport⟩
      exact hother sub hsub (of_decide_eq_true hport)

end Sys2Proof.Machine
end

section
/-! SUPPORT. SCHEDULE up to its creation: the ranges of its arguments, the ownership question and FULL. -/

namespace Sys2Proof.Machine

variable {s : State} {p : PortId} {a : ScheduleArgs} {pl : Plan}

/-! ### Enumerated fields (R178) -/

theorem latePolicyOf_eq_some_iff {b : Byte} {policy : LatePolicy} :
    latePolicyOf b = some policy ↔ (b = 0 ∧ policy = .refuse) ∨ (b = 1 ∧ policy = .fireNow) := by
  refine ⟨fun h => ?_, by rintro (⟨rfl, rfl⟩ | ⟨rfl, rfl⟩) <;> rfl⟩
  unfold latePolicyOf at h
  split_ifs at h <;> simp_all

theorem notifyOf_eq_some_iff {b : Byte} {notify : Notify} : notifyOf b = some notify ↔
    (b = 0 ∧ notify = .none) ∨ (b = 1 ∧ notify = .last) ∨ (b = 2 ∧ notify = .each) := by
  refine ⟨fun h => ?_, by rintro (⟨rfl, rfl⟩ | ⟨rfl, rfl⟩ | ⟨rfl, rfl⟩) <;> rfl⟩
  unfold notifyOf at h
  split_ifs at h <;> simp_all

theorem edgeSelectionOf_eq_some_iff {b : Byte} {sel : EdgeSelection} : edgeSelectionOf b = some sel ↔
    (b = 0 ∧ sel = .rise) ∨ (b = 1 ∧ sel = .fall) ∨ (b = 2 ∧ sel = .either) := by
  refine ⟨fun h => ?_, by rintro (⟨rfl, rfl⟩ | ⟨rfl, rfl⟩ | ⟨rfl, rfl⟩) <;> rfl⟩
  unfold edgeSelectionOf at h
  split_ifs at h <;> simp_all

theorem below_eq_some_iff {n : Nat} {b : Byte} {k : Fin n} : below n b = some k ↔ b.toNat = k.val := by
  refine ⟨fun h => ?_, below_of_eq⟩
  unfold below at h
  split at h
  · cases h
    rfl
  · cases h

/-! ### The arguments in range (R44) -/

theorem ScheduleArgs.modeOf_eq_some_iff {mode : Mode} : a.modeOf = some mode ↔
    (a.mode = 0 ∧ ∃ policy, latePolicyOf a.areaLate = some policy ∧ mode = .absolute a.areaTick policy) ∨
    (a.mode = 1 ∧ (0 < a.areaTick.toNat ∧ a.areaTick.toNat ≤ Config.horizon) ∧ mode = .relative a.areaTick) ∨
    (a.mode = 2 ∧ a.areaOffset ≠ 0 ∧ ∃ k sel, below 4 a.areaInput = some k ∧
      edgeSelectionOf a.areaSelection = some sel ∧ mode = .trigger k sel a.areaOffset) := by
  refine ⟨fun h => ?_, ?_⟩
  · unfold ScheduleArgs.modeOf at h
    split at h
    · next hm =>
      obtain ⟨policy, hpolicy, hmode⟩ := Option.map_eq_some_iff.1 h
      exact .inl ⟨hm, policy, hpolicy, hmode.symm⟩
    · split at h
      · next hm =>
        split at h
        · next hrange => exact .inr (.inl ⟨hm, hrange, (Option.some.inj h).symm⟩)
        · cases h
      · split at h
        · next hm =>
          split at h
          · next k sel hk hsel =>
            split at h
            · cases h
            · next ho => exact .inr (.inr ⟨hm, ho, k, sel, hk, hsel, (Option.some.inj h).symm⟩)
          · cases h
        · cases h
  · rintro (⟨hm, policy, hpolicy, rfl⟩ | ⟨hm, hrange, rfl⟩ | ⟨hm, ho, k, sel, hk, hsel, rfl⟩)
    · simp [ScheduleArgs.modeOf, hm, hpolicy]
    · simp [ScheduleArgs.modeOf, hm, hrange]
    · simp only [ScheduleArgs.modeOf, hm, hk, hsel]
      exact if_neg ho

theorem ScheduleArgs.actionOf_eq_some_iff {action : Action} : a.actionOf = some action ↔
    (a.action = 0 ∧ action = .set) ∨ (a.action = 1 ∧ action = .clear) ∨ (a.action = 2 ∧ action = .toggle) ∨
    (a.action = 3 ∧ ∃ k : Fin 8, a.segment.toNat = k.val ∧ action = .pattern k a.position.toNat) := by
  refine ⟨fun h => ?_, ?_⟩
  · unfold ScheduleArgs.actionOf at h
    split at h
    · next ha => exact .inl ⟨ha, (Option.some.inj h).symm⟩
    · split at h
      · next ha => exact .inr (.inl ⟨ha, (Option.some.inj h).symm⟩)
      · split at h
        · next ha => exact .inr (.inr (.inl ⟨ha, (Option.some.inj h).symm⟩))
        · split at h
          · next ha =>
            obtain ⟨k, hk, haction⟩ := Option.map_eq_some_iff.1 h
            exact .inr (.inr (.inr ⟨ha, k, below_eq_some_iff.1 hk, haction.symm⟩))
          · cases h
  · rintro (⟨ha, rfl⟩ | ⟨ha, rfl⟩ | ⟨ha, rfl⟩ | ⟨ha, k, hk, rfl⟩)
    · simp [ScheduleArgs.actionOf, ha]
    · simp [ScheduleArgs.actionOf, ha]
    · simp [ScheduleArgs.actionOf, ha]
    · simp [ScheduleArgs.actionOf, ha, below_of_eq hk]

theorem ScheduleArgs.intervalOf_eq_some_iff {interval : Option (BitVec 24)} : a.intervalOf = some interval ↔
    (a.count = 1 ∨ a.interval ≠ 0) ∧ interval = if a.count = 1 then none else some a.interval := by
  unfold ScheduleArgs.intervalOf
  by_cases hc : a.count = 1
  · simp only [hc, if_true, true_or, true_and, Option.some.injEq]
    exact eq_comm
  · by_cases hi : a.interval = 0
    · simp only [hc, hi, if_true, if_false, reduceCtorEq, false_or, ne_eq, not_true_eq_false, false_and]
    · simp only [hc, hi, if_false, false_or, ne_eq, not_false_eq_true, true_and, Option.some.injEq]
      exact eq_comm

theorem ScheduleArgs.plan_eq_some_iff : a.plan = some pl ↔ a.lines ≠ 0 ∧ ∃ mode action interval notify,
    a.modeOf = some mode ∧ a.actionOf = some action ∧ a.intervalOf = some interval ∧ notifyOf a.notify = some notify ∧
    pl = { mode := mode, label := a.label, lines := a.lines, action := action, remaining := remainingOf a.count,
           interval := interval, notify := notify } := by
  refine ⟨fun h => ?_, ?_⟩
  · unfold ScheduleArgs.plan at h
    split at h
    · next hmode haction hinterval hnotify =>
      split at h
      · cases h
      · next hlines => exact ⟨hlines, _, _, _, _, hmode, haction, hinterval, hnotify, (Option.some.inj h).symm⟩
    · cases h
  · rintro ⟨hlines, mode, action, interval, notify, hmode, haction, hinterval, hnotify, rfl⟩
    simp only [ScheduleArgs.plan, hmode, haction, hinterval, hnotify]
    exact if_neg hlines

/-- The range checks of R44, those of the fields that the mode and the action use. -/
structure ScheduleArgs.InRange (a : ScheduleArgs) : Prop where
  mode : a.mode.toNat ≤ 2
  lines : a.lines ≠ 0
  action : a.action.toNat ≤ 3
  notify : a.notify.toNat ≤ 2
  interval : a.count = 1 ∨ a.interval ≠ 0
  absolute : a.mode = 0 → a.areaLate.toNat ≤ 1
  relative : a.mode = 1 → 0 < a.areaTick.toNat ∧ a.areaTick.toNat < 2 ^ 31
  trigger : a.mode = 2 → a.areaInput.toNat ≤ 3 ∧ a.areaSelection.toNat ≤ 2 ∧ a.areaOffset ≠ 0

theorem ScheduleArgs.plan_inRange (h : a.plan = some pl) : a.InRange := by
  obtain ⟨hlines, mode, action, interval, notify, hmode, haction, hinterval, hnotify, -⟩ := plan_eq_some_iff.1 h
  have hmodes := modeOf_eq_some_iff.1 hmode
  exact
    { mode := by obtain ⟨hm, -⟩ | ⟨hm, -⟩ | ⟨hm, -⟩ := hmodes <;> simp [hm]
      lines := hlines
      action := by obtain ⟨ha, -⟩ | ⟨ha, -⟩ | ⟨ha, -⟩ | ⟨ha, -⟩ := actionOf_eq_some_iff.1 haction <;> simp [ha]
      notify := by obtain ⟨hn, -⟩ | ⟨hn, -⟩ | ⟨hn, -⟩ := notifyOf_eq_some_iff.1 hnotify <;> simp [hn]
      interval := (intervalOf_eq_some_iff.1 hinterval).1
      absolute := fun h0 => by
        obtain ⟨-, policy, hpolicy, -⟩ | ⟨hm, -⟩ | ⟨hm, -⟩ := hmodes
        · obtain ⟨hl, -⟩ | ⟨hl, -⟩ := latePolicyOf_eq_some_iff.1 hpolicy <;> simp [hl]
        all_goals simp [hm] at h0
      relative := fun h1 => by
        obtain ⟨hm, -⟩ | ⟨-, ⟨hpos, hle⟩, -⟩ | ⟨hm, -⟩ := hmodes
        · simp [hm] at h1
        · exact ⟨hpos, Nat.lt_succ_of_le hle⟩
        · simp [hm] at h1
      trigger := fun h2 => by
        obtain ⟨hm, -⟩ | ⟨hm, -⟩ | ⟨-, ho, k, sel, hk, hsel, -⟩ := hmodes
        · simp [hm] at h2
        · simp [hm] at h2
        · refine ⟨by rw [below_eq_some_iff.1 hk]; omega, ?_, ho⟩
          obtain ⟨hs, -⟩ | ⟨hs, -⟩ | ⟨hs, -⟩ := edgeSelectionOf_eq_some_iff.1 hsel <;> simp [hs] }

/-- The action of a PATTERN plan names the segment and the position of the arguments. -/
theorem ScheduleArgs.plan_pattern (h : a.plan = some pl) (ha : a.action = 3) :
    ∃ k : Fin 8, a.segment.toNat = k.val ∧ pl.action = .pattern k a.position.toNat := by
  obtain ⟨-, mode, action, interval, notify, -, haction, -, -, rfl⟩ := plan_eq_some_iff.1 h
  obtain ⟨h', -⟩ | ⟨h', -⟩ | ⟨h', -⟩ | ⟨-, hpattern⟩ := actionOf_eq_some_iff.1 haction
  · simp [h'] at ha
  · simp [h'] at ha
  · simp [h'] at ha
  · exact hpattern

/-! ### The mode area (R181) -/

section Area
variable (b15 b16 b17 b18 b19 b20 : Byte)

theorem area_tick : (b15 ++ b16 ++ b17 ++ b18 ++ b19 ++ b20).extractLsb' 16 32 = b15 ++ b16 ++ b17 ++ b18 := by
  ext bit hbit
  grind

theorem area_offset : (b15 ++ b16 ++ b17 ++ b18 ++ b19 ++ b20).extractLsb' 8 24 = b17 ++ b18 ++ b19 := by
  ext bit hbit
  grind

theorem area_late : (b15 ++ b16 ++ b17 ++ b18 ++ b19 ++ b20).extractLsb' 8 8 = b19 := by
  ext bit hbit
  grind

theorem area_selection : (b15 ++ b16 ++ b17 ++ b18 ++ b19 ++ b20).extractLsb' 32 8 = b16 := by
  ext bit hbit
  grind

theorem area_input : (b15 ++ b16 ++ b17 ++ b18 ++ b19 ++ b20).extractLsb' 40 8 = b15 := by
  ext bit hbit
  grind

end Area

/-! ### The checks of SCHEDULE in their order -/

theorem exec_schedule_of_requested (h : Requested s p (.schedule a)) :
    exec (.schedule p) s = .next (s.takeSchedule p a) := by
  show execSchedule p s = _
  rw [execSchedule, (s.request_iff p _).2 h]

theorem State.takeSchedule_of_badArg (h : ∀ pl, a.plan = some pl → s.positionInRange pl.action = false) :
    s.takeSchedule p a = s.finish p .badArg .empty := by
  unfold State.takeSchedule
  split
  · rfl
  · next pl hplan => rw [if_pos (by simp [h pl hplan])]

/-- A PATTERN plan whose segment number or position is out of range fails the check of R45. -/
theorem ScheduleArgs.positionInRange_of_pattern (hplan : a.plan = some pl) (ha : a.action = 3)
    (h : 7 < a.segment.toNat ∨ ∃ (k : Fin 8) (g : Segment), a.segment.toNat = k.val ∧
      s.store.segments[k] = some g ∧ g.length ≤ a.position.toNat) : s.positionInRange pl.action = false := by
  obtain ⟨k, hk, hpattern⟩ := plan_pattern hplan ha
  obtain h | ⟨k', g, hk', hg, hlength⟩ := h
  · omega
  · obtain rfl : k = k' := Fin.ext (hk.symm.trans hk')
    rw [← Bool.not_eq_true, State.positionInRange_iff]
    exact fun hpos => absurd (hpos k _ g hpattern hg) (by omega)

section Planned
variable (hplan : a.plan = some pl) (hreplies : s.scheduleToLines = []) (hposition : s.positionInRange pl.action = true)
include hplan hreplies hposition

theorem State.takeSchedule_of_not_owned (howned : ¬ s.ownershipFor p pl = true) :
    s.takeSchedule p a = s.finish p .notOwner .empty := by
  simp only [State.takeSchedule, hplan]
  rw [if_neg (by simp [hposition]), if_neg (by simp [s.repliesTaken_iff.2 hreplies]), if_pos (by simpa using howned)]

theorem State.takeSchedule_of_full (howned : s.ownershipFor p pl = true) (hfull : ∀ i, s.entry i ≠ none) :
    s.takeSchedule p a = s.finish p .full .empty := by
  have hslot : s.freeSlot = none := List.find?_eq_none.2 fun i _ => by simpa using hfull i
  simp only [State.takeSchedule, hplan, hslot]
  rw [if_neg (by simp [hposition]), if_neg (by simp [s.repliesTaken_iff.2 hreplies]), if_neg (by simp [howned])]

end Planned

/-- Settles O20, by the plan of the arguments and the checks of `takeSchedule` in their order. -/
theorem scheduleChecksBeforeItsTime : Obligations.ScheduleChecksBeforeItsTime := by
  refine ⟨fun p a s hreq hbad => ?_, fun a mode action notify hlines hinterval hmode haction hnotify => ?_,
    fun a b15 b16 b17 b18 b19 b20 harea => ?_, fun p a pl s hreq hplan hreplies hpos => ?_⟩
  · refine (exec_schedule_of_requested hreq).trans (congrArg _ (State.takeSchedule_of_badArg fun pl hplan => ?_))
    have hr := ScheduleArgs.plan_inRange hplan
    obtain h | h | h | h | ⟨hcount, hzero⟩ | ⟨hm, h⟩ | ⟨hm, h⟩ | ⟨hm, h⟩ | ⟨ha, h⟩ := hbad
    · exact absurd hr.mode (by omega)
    · exact absurd h hr.lines
    · exact absurd hr.action (by omega)
    · exact absurd hr.notify (by omega)
    · exact (hr.interval.elim hcount fun hne => hne hzero).elim
    · exact absurd (hr.absolute hm) (by omega)
    · exact absurd (hr.relative hm) (by omega)
    · obtain ⟨hinput, hsel, ho⟩ := hr.trigger hm
      obtain h | h | h := h
      · omega
      · omega
      · exact absurd h ho
    · exact ScheduleArgs.positionInRange_of_pattern hplan ha h
  · refine ScheduleArgs.plan_eq_some_iff.2 ⟨hlines, mode, action, _, notify, ScheduleArgs.modeOf_eq_some_iff.2 ?_,
      ScheduleArgs.actionOf_eq_some_iff.2 haction, ScheduleArgs.intervalOf_eq_some_iff.2 ⟨hinterval, rfl⟩,
      notifyOf_eq_some_iff.2 hnotify, rfl⟩
    obtain ⟨hm, h⟩ | ⟨hm, hlow, hhigh, h⟩ | ⟨hm, ho, k, sel, hk, hsel, h⟩ := hmode
    · obtain ⟨hl, h⟩ | ⟨hl, h⟩ := h
      · exact .inl ⟨hm, .refuse, latePolicyOf_eq_some_iff.2 (.inl ⟨hl, rfl⟩), h⟩
      · exact .inl ⟨hm, .fireNow, latePolicyOf_eq_some_iff.2 (.inr ⟨hl, rfl⟩), h⟩
    · exact .inr (.inl ⟨hm, ⟨hlow, Nat.le_of_lt_succ hhigh⟩, h⟩)
    · exact .inr (.inr ⟨hm, ho, k, sel, below_of_eq hk, edgeSelectionOf_eq_some_iff.2 hsel, h⟩)
  · unfold ScheduleArgs.areaTick ScheduleArgs.areaLate ScheduleArgs.areaInput ScheduleArgs.areaSelection
      ScheduleArgs.areaOffset
    rw [harea]
    exact ⟨area_tick .., area_late .., area_input .., area_selection .., area_offset ..⟩
  · have hposition := (s.positionInRange_iff _).2 hpos
    rw [exec_schedule_of_requested hreq]
    refine ⟨fun hother => congrArg _ (State.takeSchedule_of_not_owned hplan hreplies hposition ?_),
      fun hlines hsegment hfull => congrArg _ (State.takeSchedule_of_full hplan hreplies hposition
        ((s.ownershipFor_iff p pl).2 ⟨hlines, hsegment⟩) hfull)⟩
    rw [State.ownershipFor_iff]
    rintro ⟨hlines, hsegment⟩
    obtain ⟨k, hk, hline⟩ | ⟨seg, pos, ha, hseg⟩ := hother
    · obtain ⟨hown, hheld⟩ := hlines k hk
      obtain h | h := hline
      · exact h hown
      · simp [hheld] at h
    · obtain ⟨g, hg, hown⟩ := hsegment seg pos ha
      exact hseg g hg hown

end Sys2Proof.Machine
end

section
/-! SUPPORT. The firing of an entry at its EXPIRY, and the cancellation requests. -/

namespace Sys2Proof.Machine

variable {s t : State} {p : PortId} {i : SlotId} {e : Entry} {ls : LineSet}

/-! ### One firing -/

theorem State.applyFiring_endEntry (s : State) (a : FiringAction) (ls : LineSet) (i : SlotId) :
    (s.applyFiring a ls).endEntry i =
      (s.applyFiring a ls).setSlot i { generation := (s.slot i).generation + 1, entry := none } := by
  rw [State.endEntry, State.applyFiring_slot]
  rfl

/-- The final firing (R71): the entry ends, with DONE. -/
theorem State.fire_final (late : Bool) (h : e.remaining.takenDown = none) : s.fire i e late =
    ((s.applyFiring (e.action.firing s.store) e.lines).setSlot i
      { generation := (s.slot i).generation + 1, entry := none }).postSchedule e.port
        (e.doneNotice (s.handle i) s.schedule.now late) := by
  simp only [State.fire, h, State.applyFiring_endEntry]

/-- A firing with firings left whose next due tick is free (R72). -/
theorem State.fire_again {remaining : Remaining} (late : Bool) (h : e.remaining.takenDown = some remaining)
    (hfree : ∀ j, j ≠ i → ¬ HoldsDue s j e.lines (e.nextDue s.schedule.now)) : s.fire i e late =
    ((s.applyFiring (e.action.firing s.store) e.lines).setSlot i { s.slot i with
      entry := some (e.rescheduled s.store remaining (e.nextDue s.schedule.now)) }).postSchedule e.port
        (e.firedNotice (s.handle i) s.schedule.now remaining late) := by
  have hheld : ¬ s.schedule.dueHeld (some i) e.lines (e.nextDue s.schedule.now) = true := by
    rw [ScheduleUnit.dueHeld_iff]
    rintro ⟨j, hj, hholds⟩
    exact hfree j (fun he => hj (congrArg some he.symm)) hholds
  simp only [State.fire, h]
  rw [if_neg hheld]

/-- A firing with firings left whose next due tick another entry holds (R72, R76). -/
theorem State.fire_collided {remaining : Remaining} (late : Bool) (h : e.remaining.takenDown = some remaining)
    (hheld : ∃ j, j ≠ i ∧ HoldsDue s j e.lines (e.nextDue s.schedule.now)) : s.fire i e late =
    ((s.applyFiring (e.action.firing s.store) e.lines).setSlot i
      { generation := (s.slot i).generation + 1, entry := none }).postSchedule e.port
        (e.firedNotice (s.handle i) s.schedule.now remaining late ++
          e.cancelledNotice (s.handle i) s.schedule.now remaining .collided) := by
  obtain ⟨j, hj, hholds⟩ := hheld
  have hdue : s.schedule.dueHeld (some i) e.lines (e.nextDue s.schedule.now) = true :=
    (ScheduleUnit.dueHeld_iff s _ _ _).2 ⟨j, fun he => hj (Option.some.inj he).symm, hholds⟩
  simp only [State.fire, h, State.applyFiring_endEntry]
  rw [if_pos hdue]

theorem Remaining.takenDown_of_left {r r' : Remaining}
    (h : (∃ n, r = .counted (n + 2) ∧ r' = .counted (n + 1)) ∨ (r = .unbounded ∧ r' = .unbounded)) :
    r.takenDown = some r' := by
  obtain ⟨n, rfl, rfl⟩ | ⟨rfl, rfl⟩ := h
  · simp [Remaining.takenDown]
  · rfl

theorem Entry.nextDue_of_interval {iv : BitVec 24} (h : e.interval = some iv) (d : Tick) :
    e.nextDue d = d + iv.setWidth 32 := by
  rw [Entry.nextDue, h]
  rfl

/-! ### EXPIRY -/

theorem exec_expiry_of_due (he : s.entry i = some e) (hdue : e.state = .timed s.schedule.now)
    (hreplies : s.scheduleToLines = []) : exec (.expiry i) s = .next (s.fire i e false) := by
  show execExpiry i s = _
  rw [execExpiry, (s.fallenDue_iff i e).2 ⟨he, hdue⟩]
  exact if_pos (s.repliesTaken_iff.2 hreplies)

theorem exec_expiry_of_not_due (h : ∀ e, s.entry i = some e → e.state ≠ .timed s.schedule.now) :
    exec (.expiry i) s = .next s := by
  show execExpiry i s = _
  unfold execExpiry
  split
  · next e hdue =>
    obtain ⟨he, hnow⟩ := (s.fallenDue_iff i e).1 hdue
    exact absurd hnow (h e he)
  · rfl

/-- Settles O25, by the three outcomes of `fire`. -/
theorem expiryFiresTheEntry : Obligations.ExpiryFiresTheEntry := by
  refine ⟨fun i e s he hdue hreplies => ?_, fun i s => exec_expiry_of_not_due⟩
  rw [exec_expiry_of_due he hdue hreplies]
  refine ⟨fun hfinal => ?_, fun r iv hleft hinterval => ?_⟩
  · rw [State.fire_final false (by rw [hfinal]; rfl)]
    rfl
  · rw [← Entry.nextDue_of_interval hinterval]
    refine ⟨fun hfree => ?_, fun hheld => ?_⟩
    · rw [State.fire_again false (Remaining.takenDown_of_left hleft) hfree]
      rfl
    · rw [State.fire_collided false (Remaining.takenDown_of_left hleft) hheld]
      rfl

/-! ### Cancellation requests (R62) -/

theorem State.cancelEntries_with_cause (s : State) (p : PortId) (f : Entry → Bool) (cause : CancelCause) :
    s.cancelEntries p f (some cause) =
      { s.withPort p { s.port p with wires := { (s.port p).wires with
          postsOfSchedule := (s.port p).wires.postsOfSchedule ++ s.cancelNotices f cause } } with
        schedule := { s.schedule with slots := s.schedule.slots.map (cancelSlot f) } } := rfl

/-- Any function that gives each slot its notice gives the notices of a cancellation request. -/
theorem State.cancelNotices_eq {f : Entry → Bool} {cause : CancelCause} {g : SlotId → List Notice}
    (hnone : ∀ i, s.entry i = none → g i = [])
    (hsome : ∀ i e, s.entry i = some e → g i =
      if f e then e.cancelledNotice (s.handle i) s.schedule.now e.remaining cause else []) :
    s.cancelNotices f cause = (List.finRange 64).flatMap g := by
  unfold State.cancelNotices
  congr 1
  funext i
  split
  · next e he => exact (hsome i e he).symm
  · next he => exact (hnone i he).symm

theorem Entry.touches_iff (p : PortId) (ls : LineSet) (e : Entry) :
    e.touches p ls = true ↔ e.port = p ∧ Meets e.lines ls := by
  simp [Entry.touches, sharesLine_iff, Meets]

/-- The notice of an entry that a request with a cause may touch: none when its notify mode is NONE (R38). -/
theorem Entry.touches_notice (p : PortId) (ls : LineSet) (e : Entry) (h : Handle) (d : Tick) (cause : CancelCause) :
    (if decide (e.port = p) && sharesLine e.lines ls && decide (e.notify ≠ .none)
      then [Notice.cancelled h e.label d e.remaining cause] else []) =
    if e.touches p ls then e.cancelledNotice h d e.remaining cause else [] := by
  by_cases ht : e.touches p ls = true
  · have ht' : (decide (e.port = p) && sharesLine e.lines ls) = true := ht
    rw [if_pos ht, Entry.cancelledNotice, ht']
    by_cases hn : e.notify = .none <;> simp [hn]
  · have ht' : (decide (e.port = p) && sharesLine e.lines ls) = false := Bool.eq_false_iff.2 ht
    rw [if_neg ht, ht']
    rfl

theorem EndsMatching.of_cancelSlot {f : Entry → Bool} {P : Entry → Prop}
    (h : t.schedule.slots = s.schedule.slots.map (cancelSlot f)) (hP : ∀ e, f e = true ↔ P e) : EndsMatching s t P := by
  intro i
  have hslot : t.slot i = if (s.entry i).any f then (s.slot i).ended else s.slot i := by
    show t.schedule.slots[i] = cancelSlot f s.schedule.slots[i]
    rw [h]
    exact Vector.getElem_map _ i.isLt
  refine ⟨fun e he hPe => ?_, fun hnone => ?_⟩
  · rw [hslot, he, if_pos (by simpa using (hP e).2 hPe)]
    rfl
  · rw [hslot, if_neg]
    rw [Option.any_eq_true]
    rintro ⟨e, he, hf⟩
    exact hnone e he ((hP e).1 hf)

theorem exec_releaseCancellationRequest_of_request (h : (s.port p).wires.releaseRequest = some ls) :
    exec (.releaseCancellationRequest p) s = .next { s.withPort p { s.port p with wires := { (s.port p).wires with
        releaseRequest := none
        postsOfSchedule := (s.port p).wires.postsOfSchedule ++ s.cancelNotices (Entry.touches p ls) .released } } with
      schedule := { s.schedule with slots := s.schedule.slots.map (cancelSlot (Entry.touches p ls)) }
      scheduleToLines := s.scheduleToLines ++ [.release p (s.cancelCount (Entry.touches p ls))] } := by
  show execReleaseCancellationRequest p s = _
  rw [execReleaseCancellationRequest, h]
  dsimp only
  rw [State.cancelEntries_with_cause]
  simp only [State.updWires, State.updPort, State.withPort]
  simp

theorem exec_orphanRequest_of_request (h : (s.port p).wires.orphanRequest = some ls) :
    exec (.orphanRequest p) s = .next { s.withPort p { s.port p with wires := { (s.port p).wires with
        orphanRequest := none
        postsOfSchedule := (s.port p).wires.postsOfSchedule ++ s.cancelNotices (Entry.touches p ls) .orphaned } } with
      schedule := { s.schedule with slots := s.schedule.slots.map (cancelSlot (Entry.touches p ls)) }
      scheduleToLines := s.scheduleToLines ++ [.orphan p] } := by
  show execOrphanRequest p s = _
  rw [execOrphanRequest, h]
  dsimp only
  rw [State.cancelEntries_with_cause]
  simp only [State.updWires, State.updPort, State.withPort]
  simp

theorem exec_partingRequest_of_partingAt (h : s.partingAt p .entries = true) :
    exec (.partingRequest p) s =
      .next ((s.cancelEntries p (fun e => decide (e.port = p)) none).replyParting p (s.pendingCount p)) := by
  show execPartingRequest p s = _
  rw [execPartingRequest, if_pos h]

/-- Settles O28: the slots are those of `cancelSlot`, and the notices go slot by slot. -/
theorem cancellationRequestsEndTheirEntries : Obligations.CancellationRequestsEndTheirEntries := by
  intro p s
  refine ⟨fun ls h => ⟨s.schedule.slots.map (cancelSlot (Entry.touches p ls)), ?_, ?_⟩,
    fun ls h => ⟨s.schedule.slots.map (cancelSlot (Entry.touches p ls)), ?_, ?_⟩,
    fun hreq ⟨pa, hparting, hstep⟩ => ⟨s.schedule.slots.map (cancelSlot fun e => decide (e.port = p)), ?_, ?_⟩⟩
  · rw [exec_releaseCancellationRequest_of_request h, State.cancelNotices_eq]
    · rfl
    · exact fun i he => by rw [he]
    · exact fun i e he => by rw [he]; exact e.touches_notice p ls _ _ _
  · exact .of_cancelSlot rfl (Entry.touches_iff p ls)
  · rw [exec_orphanRequest_of_request h, State.cancelNotices_eq]
    · exact fun i he => by rw [he]
    · exact fun i e he => by rw [he]; exact e.touches_notice p ls _ _ _
  · exact .of_cancelSlot rfl (Entry.touches_iff p ls)
  · exact exec_partingRequest_of_partingAt (State.partingAt_of hreq hparting hstep)
  · exact .of_cancelSlot rfl fun e => by simp

end Sys2Proof.Machine
end

section
/-! SUPPORT. The link pins: SEL opens a window, and LINKP ends it. -/

namespace Sys2Proof.Machine

variable {s : State} {p : PortId} {pt : Port} {edges : Nat} {frame : List Byte} {delivery : Bool}

/-! ### The read in progress when a window ends (R149) -/

theorem readComplete_iff : readComplete frame edges = true ↔ 8 * (frame.length + 2) ≤ edges := by
  simp [readComplete]

theorem Port.closeResponse_of_no_read (h : ∀ frame delivery, pt.link.path ≠ .sending frame delivery) :
    pt.closeResponse edges = pt := by
  unfold Port.closeResponse
  split
  · next frame delivery hpath => exact absurd hpath (h frame delivery)
  · rfl

theorem Port.closeResponse_of_complete (hpath : pt.link.path = .sending frame delivery)
    (h : 8 * (frame.length + 2) ≤ edges) : pt.closeResponse edges = { pt with
      link := { pt.link with path := .idle }
      wires := { pt.wires with
        linkToQueue := pt.wires.linkToQueue ++ (if delivery = true then [.acknowledge] else []) } } := by
  simp only [Port.closeResponse, hpath, if_pos (readComplete_iff.2 h)]
  cases delivery
  · simp
  · rfl

theorem Port.closeResponse_of_partial (hpath : pt.link.path = .sending frame delivery)
    (h : edges < 8 * (frame.length + 2)) :
    pt.closeResponse edges = { pt with link := { pt.link with path := .ready frame delivery } } := by
  simp only [Port.closeResponse, hpath]
  rw [if_neg (mt readComplete_iff.1 (by omega))]

/-! ### The fall and the rise of LINKP (R139) -/

theorem State.updPort_updWires (s : State) (p : PortId) (f : Port → Port) (g : Wires → Wires) :
    (s.updPort p f).updWires p g =
      s.withPort p { f (s.port p) with wires := g (f (s.port p)).wires } := by
  rw [State.updWires, State.updPort_eq_withPort, State.updPort_port_same, State.updPort_eq_withPort,
    State.withPort_withPort]

theorem exec_linkpFall_of_present (hl : (s.port p).link.linkp = true) (hr : s.resetAsserted = false) :
    exec (.linkpFall ⟨p, edges⟩) s = .next (s.withPort p { (s.port p).loseLink edges with
      wires := { ((s.port p).loseLink edges).wires with
        linkpReports := ((s.port p).loseLink edges).wires.linkpReports ++ [.falling] } }) := by
  show execLinkpFall ⟨p, edges⟩ s = _
  rw [execLinkpFall, if_neg (by simp [hl]), if_neg (by simp [hr]), State.updPort_updWires]

theorem exec_linkpFall_of_reset (hl : (s.port p).link.linkp = true) (hr : s.resetAsserted = true) :
    exec (.linkpFall ⟨p, edges⟩) s = .next (s.withPort p ((s.port p).loseLink edges)) := by
  show execLinkpFall ⟨p, edges⟩ s = _
  rw [execLinkpFall, if_neg (by simp [hl]), if_pos hr, State.updPort_eq_withPort]

theorem exec_linkpFall_of_absent (hl : (s.port p).link.linkp = false) :
    exec (.linkpFall ⟨p, edges⟩) s = .next s := by
  show execLinkpFall ⟨p, edges⟩ s = _
  rw [execLinkpFall, if_pos (by simp [hl])]

theorem exec_linkpRise_of_absent (hl : (s.port p).link.linkp = false) (hr : s.resetAsserted = false) :
    exec (.linkpRise p) s = .next (s.withPort p { s.port p with
      link := { (s.port p).link with linkp := true }
      wires := { (s.port p).wires with linkpReports := (s.port p).wires.linkpReports ++ [.rising] } }) := by
  show execLinkpRise p s = _
  rw [execLinkpRise, if_neg (by simp [hl]), if_neg (by simp [hr]), State.updLink, State.updPort_updWires]

theorem exec_linkpRise_of_reset (hl : (s.port p).link.linkp = false) (hr : s.resetAsserted = true) :
    exec (.linkpRise p) s = .next (s.withPort p { s.port p with link := { (s.port p).link with linkp := true } }) := by
  show execLinkpRise p s = _
  rw [execLinkpRise, if_neg (by simp [hl]), if_pos hr, State.updLink, State.updPort_eq_withPort]

theorem exec_linkpRise_of_present (hl : (s.port p).link.linkp = true) : exec (.linkpRise p) s = .next s := by
  show execLinkpRise p s = _
  rw [execLinkpRise, if_pos hl]

/-! ### SEL (R140) -/

theorem exec_windowOpen_of_open (hs : (s.port p).link.sel = false) (hl : (s.port p).link.linkp = true)
    (hr : s.resetAsserted = false) : exec (.windowOpen p) s = .next (s.withPort p { s.port p with
      link := { (s.port p).link with sel := true, window := .opening } }) := by
  show execWindowOpen p s = _
  rw [execWindowOpen, if_neg (by simp [hs]), if_pos ⟨hl, hr⟩, State.updLink, State.updPort_eq_withPort]

theorem exec_windowOpen_of_shut (hs : (s.port p).link.sel = false)
    (h : (s.port p).link.linkp = false ∨ s.resetAsserted = true) :
    exec (.windowOpen p) s = .next (s.withPort p { s.port p with link := { (s.port p).link with sel := true } }) := by
  have hshut : ¬ ((s.port p).link.linkp = true ∧ s.resetAsserted = false) := by
    rintro ⟨hl, hr⟩
    simp [hl, hr] at h
  show execWindowOpen p s = _
  rw [execWindowOpen, if_neg (by simp [hs]), if_neg hshut, State.updLink, State.updPort_eq_withPort]

theorem exec_windowOpen_of_asserted (hs : (s.port p).link.sel = true) : exec (.windowOpen p) s = .next s := by
  show execWindowOpen p s = _
  rw [execWindowOpen, if_pos hs]

/-- Settles O37: the fall of LINKP closes the read in progress by its edges, and the pins read their levels. -/
theorem linkPinsOpenAndCloseTheLink : Obligations.LinkPinsOpenAndCloseTheLink := by
  refine ⟨fun p edges s => ⟨exec_windowOpen_of_open, exec_windowOpen_of_shut, exec_windowOpen_of_asserted,
    fun hl hr => ⟨fun hpath => ?_, fun frame delivery hpath => ⟨fun hedges => ?_, fun hedges => ?_⟩⟩, fun hl hr hpath => ?_,
    exec_linkpFall_of_absent, exec_linkpRise_of_absent, exec_linkpRise_of_reset, exec_linkpRise_of_present⟩,
    fun p i k s => ?_⟩
  · rw [exec_linkpFall_of_present hl hr, Port.loseLink, Port.closeResponse_of_no_read hpath]
  · rw [exec_linkpFall_of_present hl hr, Port.loseLink, Port.closeResponse_of_complete hpath hedges]
  · rw [exec_linkpFall_of_present hl hr, Port.loseLink, Port.closeResponse_of_partial hpath hedges]
  · rw [exec_linkpFall_of_reset hl hr, Port.loseLink, Port.closeResponse_of_no_read (by simp [hpath])]
  · simp [State.linePin, State.inputPin, State.linkpPin, State.selPin, State.resetPin, State.attnPin]

end Sys2Proof.Machine
end

section
/-! SUPPORT. The due queue and the waiting list stay free of collisions: every due tick and every trigger is judged against
the entries that share a line before an entry takes it. -/

namespace Sys2Proof.Machine

variable {c : Instr} {s t u : State} {p : PortId} {i : SlotId} {e : Entry}

/-! ### Collisions -/

/-- What two entries on a shared line may not have in common: the due tick of TIMED ones (R41), the input and the offset
of WAITING ones (R42). -/
def EntryState.key : EntryState → Tick ⊕ InputId × BitVec 24
  | .timed due => .inl due
  | .waiting input _ offset _ => .inr (input, offset)

/-- The two entries collide (R41, R42). -/
def Entry.Collides (e e' : Entry) : Prop := e.state.key = e'.state.key ∧ Meets e.lines e'.lines

theorem Entry.Collides.symm {e e' : Entry} (h : e.Collides e') : e'.Collides e := by
  obtain ⟨hkey, k, hk, hk'⟩ := h
  exact ⟨hkey.symm, k, hk', hk⟩

theorem EntryState.key_eq_timed_iff {st : EntryState} {d : Tick} : st.key = .inl d ↔ st = .timed d := by
  cases st <;> simp [EntryState.key]

theorem EntryState.key_eq_waiting_iff {st : EntryState} {input : InputId} {offset : BitVec 24} :
    st.key = .inr (input, offset) ↔ ∃ sel mark, st = .waiting input sel offset mark := by
  cases st <;> simp [EntryState.key]

theorem holdsDue_iff {j : SlotId} {d : Tick} (hd : e.state = .timed d) :
    HoldsDue s j e.lines d ↔ ∃ e', s.entry j = some e' ∧ e'.Collides e := by
  simp only [HoldsDue, Entry.Collides, hd, ← EntryState.key_eq_timed_iff]
  rfl

theorem waitsWith_iff {j : SlotId} {input : InputId} {sel : EdgeSelection} {offset : BitVec 24} {mark : Bool}
    (hw : e.state = .waiting input sel offset mark) :
    WaitsWith s j e.lines input offset ↔ ∃ e', s.entry j = some e' ∧ e'.Collides e := by
  have hkey : e.state.key = .inr (input, offset) := by rw [hw]; rfl
  simp only [WaitsWith, Entry.Collides, hkey, EntryState.key_eq_waiting_iff]
  exact exists_congr fun e' => ⟨fun ⟨sel, mark, he, hs, hm⟩ => ⟨he, ⟨sel, mark, hs⟩, hm⟩,
    fun ⟨he, ⟨sel, mark, hs⟩, hm⟩ => ⟨sel, mark, he, hs, hm⟩⟩

/-- The two halves of the law are one: no two entries collide. -/
theorem collisionLaw_iff (s : State) : CollisionLaw s ↔
    ∀ i j e e', i ≠ j → s.entry i = some e → s.entry j = some e' → ¬ e'.Collides e := by
  constructor
  · rintro ⟨htimed, hwaiting⟩ i j e e' hij he he' hc
    cases hs : e.state with
    | timed d => exact htimed i j e d hij he hs ((holdsDue_iff hs).2 ⟨e', he', hc⟩)
    | waiting input sel offset mark =>
      exact hwaiting i j e input sel offset mark hij he hs ((waitsWith_iff hs).2 ⟨e', he', hc⟩)
  · refine fun h => ⟨fun i j e d hij he hs hholds => ?_, fun i j e input sel offset mark hij he hs hwaits => ?_⟩
    · obtain ⟨e', he', hc⟩ := (holdsDue_iff hs).1 hholds
      exact h i j e e' hij he he' hc
    · obtain ⟨e', he', hc⟩ := (waitsWith_iff hs).1 hwaits
      exact h i j e e' hij he he' hc

/-! ### Entries that stay, end, or are placed -/

/-- Entries that end or stay on their lines, due ticks and triggers bring no collision. -/
theorem CollisionLaw.of_kept (h : CollisionLaw s) (hkept : ∀ i e, t.entry i = some e →
    ∃ e₀, s.entry i = some e₀ ∧ e.state.key = e₀.state.key ∧ e.lines = e₀.lines) : CollisionLaw t := by
  rw [collisionLaw_iff] at h ⊢
  rintro i j e e' hij he he' ⟨hkey, hlines⟩
  obtain ⟨e₀, he₀, hk, hl⟩ := hkept i e he
  obtain ⟨e₀', he₀', hk', hl'⟩ := hkept j e' he'
  exact h i j e₀ e₀' hij he₀ he₀' ⟨hk'.symm.trans (hkey.trans hk), hl ▸ hl' ▸ hlines⟩

theorem CollisionLaw.of_slots (h : CollisionLaw s) (hs : t.schedule.slots = s.schedule.slots) : CollisionLaw t := by
  refine h.of_kept fun i e he => ?_
  rw [State.entry, State.slot, hs] at he
  exact ⟨e, he, rfl, rfl⟩

theorem CollisionLaw.endEntry (h : CollisionLaw s) (i : SlotId) : CollisionLaw (s.endEntry i) := by
  refine h.of_kept fun j e he => ?_
  rw [State.endEntry_entry] at he
  split at he
  · cases he
  · exact ⟨e, he, rfl, rfl⟩

theorem State.place_entry (s : State) (i j : SlotId) (e : Entry) :
    (s.place i e).entry j = if j = i then some e else s.entry j := s.setSlot_entry i j _

/-- An entry that collides with none of the other slots may be placed. -/
theorem CollisionLaw.place (h : CollisionLaw s)
    (hfree : ∀ j, j ≠ i → ¬ ∃ e', s.entry j = some e' ∧ e'.Collides e) : CollisionLaw (s.place i e) := by
  rw [collisionLaw_iff] at h ⊢
  intro j k e₁ e₂ hjk h₁ h₂ hc
  rw [State.place_entry] at h₁ h₂
  split at h₁
  · next hj =>
    subst hj
    cases h₁
    rw [if_neg (Ne.symm hjk)] at h₂
    exact hfree k (Ne.symm hjk) ⟨e₂, h₂, hc⟩
  · next hj =>
    split at h₂
    · cases h₂
      exact hfree j hj ⟨e₁, h₁, hc.symm⟩
    · exact h j k e₁ e₂ hjk h₁ h₂ hc

theorem CollisionLaw.placeTimed {d : Tick} (h : CollisionLaw s) (hd : e.state = .timed d)
    (hfree : ∀ j, j ≠ i → ¬ HoldsDue s j e.lines d) : CollisionLaw (s.place i e) :=
  h.place fun j hj hc => hfree j hj ((holdsDue_iff hd).2 hc)

theorem CollisionLaw.placeWaiting {input : InputId} {sel : EdgeSelection} {offset : BitVec 24} {mark : Bool}
    (h : CollisionLaw s) (hw : e.state = .waiting input sel offset mark)
    (hfree : ∀ j, j ≠ i → ¬ WaitsWith s j e.lines input offset) : CollisionLaw (s.place i e) :=
  h.place fun j hj hc => hfree j hj ((waitsWith_iff hw).2 hc)

/-! ### The checks for collision -/

theorem ScheduleUnit.not_dueHeld_iff (s : State) (self : Option SlotId) (ls : LineSet) (d : Tick) :
    ¬ s.schedule.dueHeld self ls d = true ↔ ∀ j, self ≠ some j → ¬ HoldsDue s j ls d := by
  rw [ScheduleUnit.dueHeld_iff, not_exists]
  exact forall_congr' fun j => not_and

theorem ScheduleUnit.waitingHeld_iff (s : State) (ls : LineSet) (input : InputId) (offset : BitVec 24) :
    s.schedule.waitingHeld ls input offset = true ↔ ∃ j, WaitsWith s j ls input offset := by
  unfold ScheduleUnit.waitingHeld
  simp only [List.any_eq_true, List.mem_finRange, true_and]
  refine exists_congr fun j => ?_
  show (s.entry j).any _ = true ↔ _
  rw [Option.any_eq_true]
  refine exists_congr fun e => ?_
  cases hs : e.state with
  | timed d => simp
  | waiting input' sel offset' mark => simp [sharesLine_iff, Meets, and_assoc]

/-! ### The events of the schedule unit -/

theorem CollisionLaw.fire (h : CollisionLaw s) (i : SlotId) (e : Entry) (late : Bool) :
    CollisionLaw (s.fire i e late) := by
  cases hr : e.remaining.takenDown with
  | none =>
    rw [State.fire_final late hr]
    exact (h.endEntry i).of_slots rfl
  | some remaining =>
    by_cases hheld : ∃ j, j ≠ i ∧ HoldsDue s j e.lines (e.nextDue s.schedule.now)
    · rw [State.fire_collided late hr hheld]
      exact (h.endEntry i).of_slots rfl
    · have hfree : ∀ j, j ≠ i → ¬ HoldsDue s j e.lines (e.nextDue s.schedule.now) :=
        fun j hj hd => hheld ⟨j, hj, hd⟩
      rw [State.fire_again late hr hfree]
      exact (h.placeTimed (e := e.rescheduled s.store remaining (e.nextDue s.schedule.now)) rfl hfree).of_slots rfl

theorem CollisionLaw.createTimed (h : CollisionLaw s) (i : SlotId) (pl : Plan) (due : Tick) (lp : Option LatePolicy) :
    CollisionLaw (s.createTimed p i pl due lp) := by
  unfold State.createTimed
  split
  · exact h.of_slots rfl
  · next hfree =>
    rw [ScheduleUnit.not_dueHeld_iff] at hfree
    exact (h.placeTimed (e := pl.entry p (.timed due) lp) rfl fun j _ => hfree j (by simp)).of_slots rfl

theorem CollisionLaw.createWaiting (h : CollisionLaw s) (i : SlotId) (pl : Plan) (input : InputId) (sel : EdgeSelection)
    (offset : BitVec 24) : CollisionLaw (s.createWaiting p i pl input sel offset) := by
  unfold State.createWaiting
  split
  · exact h.of_slots rfl
  · next hfree =>
    rw [ScheduleUnit.waitingHeld_iff, not_exists] at hfree
    exact (h.placeWaiting (e := pl.entry p (.waiting input sel offset true) none) rfl fun j _ => hfree j).of_slots rfl

theorem CollisionLaw.createFireNow (h : CollisionLaw s) (i : SlotId) (pl : Plan) :
    CollisionLaw (s.createFireNow p i pl) := by
  have hfire := h.fire i (pl.entry p (.timed s.schedule.now) (some .fireNow)) true
  unfold State.createFireNow
  dsimp only
  split
  · exact hfire.of_slots rfl
  · split
    · exact h.of_slots rfl
    · exact hfire.of_slots rfl

theorem CollisionLaw.create (h : CollisionLaw s) (i : SlotId) (pl : Plan) : CollisionLaw (s.create p i pl) := by
  unfold State.create
  split
  · exact h.createWaiting i pl _ _ _
  · exact h.createTimed i pl _ _
  · split
    · exact h.createTimed i pl _ _
    · split
      · exact h.of_slots rfl
      · exact h.createFireNow i pl

theorem CollisionLaw.takeSchedule (h : CollisionLaw s) (p : PortId) (a : ScheduleArgs) :
    CollisionLaw (s.takeSchedule p a) := by
  obtain ⟨status, hr⟩ | hr | ⟨pl, i, -, -, -, -, hr⟩ := s.takeSchedule_cases p a
  · exact hr ▸ h.of_slots rfl
  · exact hr.symm ▸ h
  · exact hr ▸ h.create i pl

theorem CollisionLaw.cancelEntries (h : CollisionLaw s) (p : PortId) (f : Entry → Bool) (cause : Option CancelCause) :
    CollisionLaw (s.cancelEntries p f cause) := by
  obtain ⟨ports, hr⟩ := s.cancelEntries_frame p f cause
  refine h.of_kept fun i e he => ?_
  rw [hr] at he
  simp only [State.entry, State.slot, Fin.getElem_fin, Vector.getElem_map, cancelSlot] at he
  split at he
  · cases he
  · exact ⟨e, he, rfl, rfl⟩

theorem Entry.unmarked_key (e : Entry) : e.unmarked.state.key = e.state.key ∧ e.unmarked.lines = e.lines := by
  unfold Entry.unmarked
  split
  · next hs => exact ⟨by rw [hs]; rfl, rfl⟩
  · exact ⟨rfl, rfl⟩

theorem CollisionLaw.tick (h : CollisionLaw s) (rest : List Tick) (d : Tick) :
    CollisionLaw { s with ticksToSchedule := rest, schedule := s.schedule.tick d } := by
  refine h.of_kept fun i e he => ?_
  rw [ScheduleUnit.tick_entry, Option.map_eq_some_iff] at he
  obtain ⟨e₀, he₀, rfl⟩ := he
  exact ⟨e₀, he₀, e₀.unmarked_key⟩

/-- The turn of a slot in a release request gives its entry a due tick that no other entry holds, or ends it (R117). -/
theorem CollisionLaw.releaseSlot (h : CollisionLaw s) (r : ReleaseRequest) (i : SlotId) :
    CollisionLaw (State.releaseSlot r s i) := by
  unfold State.releaseSlot
  dsimp only
  split
  · exact h
  · next e _ =>
    split
    · exact h
    · next offset _ =>
      split
      · exact (h.endEntry i).of_slots rfl
      · next hfree =>
        rw [ScheduleUnit.not_dueHeld_iff] at hfree
        exact h.placeTimed (e := { e with state := .timed (later r.tick offset) }) rfl fun j hj =>
          hfree j fun hi => hj (Option.some.inj hi).symm

theorem CollisionLaw.releaseSlots (h : CollisionLaw s) (r : ReleaseRequest) (l : List SlotId) :
    CollisionLaw (l.foldl (State.releaseSlot r) s) := by
  induction l generalizing s with
  | nil => exact h
  | cons i l ih => exact ih (h.releaseSlot r i)

theorem CollisionLaw.takeReleaseRequest (h : CollisionLaw s) (r : ReleaseRequest) (rr : List ReleaseRequest) :
    CollisionLaw ({ s with releaseRequests := rr }.takeReleaseRequest r) :=
  CollisionLaw.releaseSlots (h.of_slots (t := { s with releaseRequests := rr }) rfl) r _

/-! ### Every step -/

theorem exec_keeps_collisionLaw (h : CollisionLaw s) (he : exec c s = .next t) : CollisionLaw t := by
  by_cases hw : c.writesSlots = false
  · exact h.of_slots ((exec_next_frame he).slots hw)
  suffices Yields (exec c s) CollisionLaw from this.of_next he
  cases c with
  | schedule p =>
    show Yields (execSchedule p s) _
    unfold execSchedule
    split
    · exact .next (h.takeSchedule p _)
    · exact .next h
  | cancel p =>
    show Yields (execCancel p s) _
    unfold execCancel State.takeCancel
    split
    · split
      · exact .next (h.of_slots rfl)
      · exact .next ((h.endEntry _).of_slots rfl)
    · exact .next h
  | expiry i =>
    show Yields (execExpiry i s) _
    unfold execExpiry
    split
    · split
      · exact .next (h.fire i _ false)
      · exact .next h
    · exact .next h
  | scheduleUnitTick =>
    obtain hwait | ⟨d, rest, -, -, hnext⟩ := execScheduleUnitTick_cases s
    · exact ⟨s, hwait, h⟩
    · exact ⟨_, hnext, h.tick rest d⟩
  | releaseRequest input =>
    show Yields (execReleaseRequest input s) _
    unfold execReleaseRequest
    split
    · exact .next (h.takeReleaseRequest _ _)
    · exact .next h
  | releaseCancellationRequest p =>
    show Yields (execReleaseCancellationRequest p s) _
    unfold execReleaseCancellationRequest
    split
    · exact .next ((h.cancelEntries p _ _).of_slots rfl)
    · exact .next h
  | orphanRequest p =>
    show Yields (execOrphanRequest p s) _
    unfold execOrphanRequest
    split
    · exact .next ((h.cancelEntries p _ _).of_slots rfl)
    · exact .next h
  | partingRequest p =>
    show Yields (execPartingRequest p s) _
    unfold execPartingRequest
    split
    · exact .next ((h.cancelEntries p _ _).of_slots rfl)
    · exact .next h
  | resetAssertion => exact .next (.of_no_entry s.assertReset_entry)
  | _ => exact absurd rfl hw

/-- Settles O54: an entry takes a due tick or a trigger only past the check for collision, and every other change of the
slots ends entries or leaves them where they are. -/
theorem stepsKeepTheCollisionLaw : Obligations.StepsKeepTheCollisionLaw :=
  step_keeps (fun _ _ h => h) fun _ _ _ => exec_keeps_collisionLaw

end Sys2Proof.Machine
end

section
/-! SUPPORT. The commands of the schedule unit past their checks: the creation of an entry by SCHEDULE, and CANCEL, QUERY
and LIST. -/

namespace Sys2Proof.Machine

variable {s : State} {p : PortId} {a : ScheduleArgs} {pl : Plan} {i : SlotId} {e : Entry}

/-! ### SCHEDULE past its checks -/

theorem State.freeSlot_of_lowest (hfree : s.entry i = none) (hlowest : ∀ j, j < i → s.entry j ≠ none) :
    s.freeSlot = some i :=
  find_lowest _ i (by simp [hfree]) fun j hj => by simpa using Option.ne_none_iff_isSome.1 (hlowest j hj)

theorem exec_schedule_of_admitted (h : Admitted s p a pl i) : exec (.schedule p) s = .next (s.create p i pl) := by
  have hposition : s.positionInRange pl.action = true := (s.positionInRange_iff _).2 h.position
  have howned : s.ownershipFor p pl = true := (s.ownershipFor_iff p pl).2 ⟨h.owned, h.segment⟩
  rw [exec_schedule_of_requested h.request]
  simp only [State.takeSchedule, h.plan, State.freeSlot_of_lowest h.free h.lowest]
  rw [if_neg (by simp [hposition]), if_neg (by simp [s.repliesTaken_iff.2 h.replies]), if_neg (by simp [howned])]

section Due
variable {due : Tick} {lp : Option LatePolicy}

theorem State.createTimed_of_held (h : ∃ j, HoldsDue s j pl.lines due) :
    s.createTimed p i pl due lp = s.finish p .duplicate .empty := by
  obtain ⟨j, hj⟩ := h
  exact if_pos ((ScheduleUnit.dueHeld_iff s _ _ _).2 ⟨j, by simp, hj⟩)

theorem State.createTimed_of_free (h : ∀ j, ¬ HoldsDue s j pl.lines due) : s.createTimed p i pl due lp =
    (s.place i (pl.entry p (.timed due) lp)).finish p .ok (.schedule (s.handle i) .timed (some due)) :=
  if_neg ((ScheduleUnit.not_dueHeld_iff s _ _ _).2 fun j _ => h j)

end Due

section Trigger
variable {input : InputId} {sel : EdgeSelection} {offset : BitVec 24}

theorem State.createWaiting_of_held (h : ∃ j, WaitsWith s j pl.lines input offset) :
    s.createWaiting p i pl input sel offset = s.finish p .duplicate .empty :=
  if_pos ((ScheduleUnit.waitingHeld_iff s _ _ _).2 h)

theorem State.createWaiting_of_free (h : ∀ j, ¬ WaitsWith s j pl.lines input offset) :
    s.createWaiting p i pl input sel offset =
      (s.place i (pl.entry p (.waiting input sel offset true) none)).finish p .ok
        (.schedule (s.handle i) .waiting none) :=
  if_neg (mt (ScheduleUnit.waitingHeld_iff s _ _ _).1 (not_exists.2 h))

end Trigger

/-- Settles O21: the mode gives the due tick or the trigger, and the check for collision decides. -/
theorem scheduleCreatesEntries : Obligations.ScheduleCreatesEntries := by
  refine ⟨fun p a pl i s hadm due late hmode => ?_, fun p a pl i input sel offset s hadm hmode => ?_⟩
  · have hcreate : s.create p i pl = s.createTimed p i pl due late := by
      obtain ⟨offset, hm, rfl, rfl⟩ | ⟨policy, hm, hfuture, rfl⟩ := hmode
      · simp only [State.create, hm]
      · simp only [State.create, hm]
        exact if_pos hfuture
    rw [exec_schedule_of_admitted hadm, hcreate]
    exact ⟨fun hheld => congrArg _ (State.createTimed_of_held hheld),
      fun hfree => congrArg _ (State.createTimed_of_free hfree)⟩
  · have hcreate : s.create p i pl = s.createWaiting p i pl input sel offset := by simp only [State.create, hmode]
    rw [exec_schedule_of_admitted hadm, hcreate]
    exact ⟨fun hheld => congrArg _ (State.createWaiting_of_held hheld),
      fun hfree => congrArg _ (State.createWaiting_of_free hfree)⟩

/-! ### FIRE_NOW (R49) -/

theorem State.createFireNow_final (h : pl.remaining.takenDown = none) : s.createFireNow p i pl =
    (s.fire i (pl.entry p (.timed s.schedule.now) (some .fireNow)) true).finish p .ok
      (.schedule (s.handle i) .ended none) := by
  simp only [State.createFireNow, h]

theorem Plan.nextDue_entry {iv : BitVec 24} {lp : Option LatePolicy} (hinterval : pl.interval = some iv)
    (state : EntryState) (d : Tick) : (pl.entry p state lp).nextDue d = d + iv.setWidth 32 :=
  Entry.nextDue_of_interval hinterval d

section Left
variable {remaining : Remaining} {iv : BitVec 24} (hleft : pl.remaining.takenDown = some remaining)
  (hinterval : pl.interval = some iv)
include hleft hinterval

/-- A next due tick that another entry holds refuses the SCHEDULE before the firing (R49). -/
theorem State.createFireNow_of_held (h : ∃ j, HoldsDue s j pl.lines (s.schedule.now + iv.setWidth 32)) :
    s.createFireNow p i pl = s.finish p .duplicate .empty := by
  obtain ⟨j, hj⟩ := h
  simp only [State.createFireNow, hleft, Plan.nextDue_entry hinterval]
  exact if_pos ((ScheduleUnit.dueHeld_iff s _ _ _).2 ⟨j, by simp, hj⟩)

theorem State.createFireNow_of_free (h : ∀ j, ¬ HoldsDue s j pl.lines (s.schedule.now + iv.setWidth 32)) :
    s.createFireNow p i pl = (s.fire i (pl.entry p (.timed s.schedule.now) (some .fireNow)) true).finish p .ok
      (.schedule (s.handle i) .timed (some (s.schedule.now + iv.setWidth 32))) := by
  simp only [State.createFireNow, hleft, Plan.nextDue_entry hinterval]
  exact if_neg ((ScheduleUnit.not_dueHeld_iff s _ _ _).2 fun j _ => h j)

end Left

/-- Settles O22, by the outcomes of `createFireNow` and of the firing in it. -/
theorem lateSchedulesFollowTheirPolicy : Obligations.LateSchedulesFollowTheirPolicy := by
  intro p a pl i due s hadm hlate
  rw [exec_schedule_of_admitted hadm]
  refine ⟨fun hm => ?_, fun hm => ?_⟩
  · simp only [State.create, hm]
    rw [if_neg (by simp [hlate])]
  · have hcreate : s.create p i pl = s.createFireNow p i pl := by
      simp only [State.create, hm]
      exact if_neg (by simp [hlate])
    rw [hcreate]
    refine ⟨fun hone => ?_, fun r iv hleft hinterval => ⟨fun hheld => ?_, fun hfree => ?_⟩⟩
    · have hfinal : pl.remaining.takenDown = none := by rw [hone]; rfl
      rw [State.createFireNow_final hfinal, State.fire_final true hfinal]
      rfl
    · rw [State.createFireNow_of_held (Remaining.takenDown_of_left hleft) hinterval hheld]
    · have hdue := Plan.nextDue_entry (p := p) (lp := some .fireNow) hinterval (.timed s.schedule.now) s.schedule.now
      rw [State.createFireNow_of_free (Remaining.takenDown_of_left hleft) hinterval hfree,
        State.fire_again true (Remaining.takenDown_of_left hleft) (by rw [hdue]; exact fun j _ => hfree j), hdue,
        Entry.rescheduled, ← hinterval]
      rfl

/-! ### CANCEL and QUERY -/

section Handle
variable {slot gen : Byte}

theorem exec_cancel_of_requested (h : Requested s p (.cancel slot gen)) :
    exec (.cancel p) s = .next (s.takeCancel p slot gen) := by
  show execCancel p s = _
  rw [execCancel, (s.request_iff p _).2 h]

theorem exec_query_of_requested (h : Requested s p (.query slot gen)) :
    exec (.query p) s = .next (s.takeQuery p slot gen) := by
  show execQuery p s = _
  rw [execQuery, (s.request_iff p _).2 h]

theorem State.resolve_of_slot (hslot : 63 < slot.toNat) : s.resolve p slot gen = .refused .badArg := by
  rw [State.resolve, below_of_le hslot]

theorem State.resolve_of_stale (hslot : slot.toNat = i.val) (h : s.entry i = none ∨ (s.slot i).generation ≠ gen) :
    s.resolve p slot gen = .refused .notFound := by
  rw [State.resolve, below_of_eq hslot]
  cases he : s.entry i with
  | none => simp only [he]
  | some e =>
    simp only [he]
    exact if_pos (h.resolve_left (by simp [he]))

theorem State.resolve_of_other (hslot : slot.toNat = i.val) (he : s.entry i = some e)
    (hgen : (s.slot i).generation = gen) (hport : e.port ≠ p) : s.resolve p slot gen = .refused .notOwner := by
  simp only [State.resolve, below_of_eq hslot, he]
  rw [if_neg (not_not.2 hgen), if_pos hport]

theorem State.resolve_of_own (hslot : slot.toNat = i.val) (he : s.entry i = some e)
    (hgen : (s.slot i).generation = gen) (hport : e.port = p) : s.resolve p slot gen = .entry i e := by
  simp only [State.resolve, below_of_eq hslot, he]
  rw [if_neg (not_not.2 hgen), if_neg (not_not.2 hport)]

/-- A handle that does not resolve refuses CANCEL and QUERY alike. -/
theorem exec_of_refused {c : Instr} {status : Status}
    (hreq : (Requested s p (.cancel slot gen) ∧ c = .cancel p) ∨ (Requested s p (.query slot gen) ∧ c = .query p))
    (h : s.resolve p slot gen = .refused status) : exec c s = .next (s.finish p status .empty) := by
  obtain ⟨hreq, rfl⟩ | ⟨hreq, rfl⟩ := hreq
  · rw [exec_cancel_of_requested hreq, State.takeCancel, h]
  · rw [exec_query_of_requested hreq, State.takeQuery, h]

theorem exec_cancel_of_resolved (hreq : Requested s p (.cancel slot gen)) (h : s.resolve p slot gen = .entry i e) :
    exec (.cancel p) s = .next ((s.endEntry i).finish p .ok (.cancel e.remaining e.state.reported)) := by
  rw [exec_cancel_of_requested hreq, State.takeCancel, h]

theorem exec_query_of_resolved (hreq : Requested s p (.query slot gen)) (h : s.resolve p slot gen = .entry i e) :
    exec (.query p) s = .next (s.finish p .ok (.query (s.handle i) e)) := by
  rw [exec_query_of_requested hreq, State.takeQuery, h]

end Handle

/-- Settles O23, by what the handle resolves to. -/
theorem handlesNameEntries : Obligations.HandlesNameEntries := by
  refine ⟨fun p slot gen c s hreq => ⟨fun hslot => ?_, fun i hslot => ⟨fun hstale => ?_, fun e he hgen hport => ?_,
    fun e he hgen hport => ?_⟩⟩, fun p slot gen i e s hslot he hgen hport => ?_⟩
  · exact exec_of_refused hreq (State.resolve_of_slot hslot)
  · exact exec_of_refused hreq (State.resolve_of_stale hslot hstale)
  · exact exec_of_refused hreq (State.resolve_of_other hslot he hgen hport)
  · have hres := State.resolve_of_own hslot he hgen hport
    obtain ⟨hreq, rfl⟩ | ⟨hreq, rfl⟩ := hreq
    · exact ⟨_, .cancel e.remaining e.state.reported, exec_cancel_of_resolved hreq hres, by simp⟩
    · exact ⟨_, .query (s.handle i) e, exec_query_of_resolved hreq hres, by simp⟩
  · have hres := State.resolve_of_own hslot he hgen hport
    subst hgen
    refine ⟨fun hreq => (exec_cancel_of_resolved hreq hres).trans ?_, fun hreq => exec_query_of_resolved hreq hres⟩
    cases hs : e.state <;> rfl

/-! ### LIST -/

theorem exec_list_of_requested {k : Byte} (h : Requested s p (.list k)) : exec (.list p) s = .next (s.takeList p k) := by
  show execList p s = _
  rw [execList, (s.request_iff p _).2 h]

theorem State.dueOf_eq_some_iff (s : State) (i : SlotId) (d : Tick) :
    s.dueOf i = some d ↔ ∃ e, s.entry i = some e ∧ e.state = .timed d := by
  unfold State.dueOf
  cases he : s.entry i with
  | none => simp
  | some e => cases hs : e.state <;> simp [hs]

/-- How far from now the due tick of a slot lies (R41). -/
def State.dueDistance (s : State) (i : SlotId) : Nat := distance s.schedule.now ((s.dueOf i).getD 0)

/-- The order of the due queue (R41): by distance from now, then by slot. -/
def State.DueBefore (s : State) (i j : SlotId) : Prop :=
  s.dueDistance i < s.dueDistance j ∨ (s.dueDistance i = s.dueDistance j ∧ i < j)

theorem State.DueBefore.le {j : SlotId} (h : s.DueBefore i j) : s.dueDistance i ≤ s.dueDistance j := by
  obtain h | ⟨h, -⟩ := h <;> omega

theorem State.DueBefore.of_le {j : SlotId} (h : s.dueDistance i ≤ s.dueDistance j) (hij : i < j) : s.DueBefore i j :=
  (Nat.lt_or_eq_of_le h).imp id fun h => ⟨h, hij⟩

theorem State.insertByDue_eq_orderedInsert (s : State) (i : SlotId) (l : List SlotId) :
    s.insertByDue i l = l.orderedInsert (fun i j => s.dueDistance i ≤ s.dueDistance j) i := by
  induction l with
  | nil => rfl
  | cons j rest ih =>
    rw [State.insertByDue, List.orderedInsert_cons, ih]
    rfl

/-- Slots inserted one after the other are sorted. -/
theorem State.foldr_insertByDue (s : State) (l : List SlotId) :
    l.foldr s.insertByDue [] = l.insertionSort (fun i j => s.dueDistance i ≤ s.dueDistance j) :=
  congrArg (fun f => l.foldr f []) (funext₂ s.insertByDue_eq_orderedInsert)

/-- A slot inserted before all higher ones goes to its place in the order. -/
theorem State.pairwise_insertByDue {l : List SlotId} (h : l.Pairwise s.DueBefore) (hi : ∀ j ∈ l, i < j) :
    (s.insertByDue i l).Pairwise s.DueBefore := by
  induction l with
  | nil => exact List.pairwise_singleton _ i
  | cons j rest ih =>
    obtain ⟨hj, hrest⟩ := List.pairwise_cons.1 h
    have hij : i < j := hi j List.mem_cons_self
    have hirest : ∀ k ∈ rest, i < k := fun k hk => hi k (List.mem_cons_of_mem j hk)
    rw [State.insertByDue]
    split
    · next hle =>
      refine List.pairwise_cons.2 ⟨fun k hk => ?_, h⟩
      refine .of_le ?_ (hi k hk)
      obtain rfl | hk := List.mem_cons.1 hk
      · exact hle
      · exact Nat.le_trans hle (hj k hk).le
    · next hlt =>
      refine List.pairwise_cons.2 ⟨fun k hk => ?_, ih hrest hirest⟩
      rw [State.insertByDue_eq_orderedInsert, List.mem_orderedInsert] at hk
      obtain rfl | hk := hk
      · exact .inl (Nat.lt_of_not_le hlt)
      · exact hj k hk

theorem State.pairwise_foldr_insertByDue {l : List SlotId} (h : l.Pairwise (· < ·)) :
    (l.foldr s.insertByDue []).Pairwise s.DueBefore := by
  induction l with
  | nil => exact .nil
  | cons i l ih =>
    obtain ⟨hi, hl⟩ := List.pairwise_cons.1 h
    exact State.pairwise_insertByDue (ih hl) fun j hj => hi j (by simpa [State.foldr_insertByDue] using hj)

/-! ### The due queue and the waiting list -/

theorem State.mem_dueQueue (s : State) (i : SlotId) : i ∈ s.dueQueue ↔ ∃ d, s.dueOf i = some d := by
  simp [State.dueQueue, State.foldr_insertByDue, Option.isSome_iff_exists]

theorem State.nodup_dueQueue (s : State) : s.dueQueue.Nodup := by
  rw [State.dueQueue, State.foldr_insertByDue, (List.perm_insertionSort _ _).nodup_iff]
  exact (List.nodup_finRange 64).filter _

theorem State.pairwise_dueQueue (s : State) : s.dueQueue.Pairwise s.DueBefore :=
  State.pairwise_foldr_insertByDue ((List.pairwise_lt_finRange 64).filter _)

theorem State.mem_waitingList (s : State) (i : SlotId) :
    i ∈ s.waitingList ↔ (∃ e, s.entry i = some e) ∧ s.dueOf i = none := by
  simp [State.waitingList, Option.isSome_iff_exists]

theorem State.pairwise_waitingList (s : State) : s.waitingList.Pairwise (· < ·) :=
  (List.pairwise_lt_finRange 64).filter _

theorem State.mem_listOf (s : State) (p : PortId) (i : SlotId) :
    i ∈ s.listOf p ↔ ∃ e, s.entry i = some e ∧ e.port = p := by
  have hpending : i ∈ s.dueQueue ++ s.waitingList ↔ ∃ e, s.entry i = some e := by
    rw [List.mem_append, State.mem_dueQueue, State.mem_waitingList]
    cases hd : s.dueOf i with
    | none => simp
    | some d =>
      obtain ⟨e, he, -⟩ := (s.dueOf_eq_some_iff i d).1 hd
      simp [he]
  simp only [State.listOf, List.mem_filter, hpending, Option.any_eq_true, decide_eq_true_eq]
  exact and_iff_right_of_imp fun ⟨e, he, _⟩ => ⟨e, he⟩

theorem State.nodup_listOf (s : State) (p : PortId) : (s.listOf p).Nodup := by
  refine (List.nodup_append.2 ⟨s.nodup_dueQueue, s.pairwise_waitingList.imp Fin.ne_of_lt, fun i hi j hj hij => ?_⟩).filter _
  obtain ⟨d, hd⟩ := (s.mem_dueQueue i).1 hi
  have hnone := ((s.mem_waitingList j).1 hj).2
  rw [← hij, hd] at hnone
  cases hnone

/-- The order of LIST (R60): what holds of each pair of the due queue, of a slot of it before one of the waiting list, and
of each pair of the waiting list, holds of each pair listed. -/
theorem State.pairwise_listOf (p : PortId) {R : SlotId → SlotId → Prop}
    (hdue : ∀ i j d d', s.dueOf i = some d → s.dueOf j = some d' → s.DueBefore i j → R i j)
    (hcross : ∀ i j d, s.dueOf i = some d → s.dueOf j = none → R i j)
    (hwaiting : ∀ i j, s.dueOf i = none → s.dueOf j = none → i < j → R i j) : (s.listOf p).Pairwise R := by
  refine (List.pairwise_append.2 ⟨?_, ?_, fun i hi j hj => ?_⟩).filter _
  · refine s.pairwise_dueQueue.imp_of_mem fun hi hj hij => ?_
    obtain ⟨d, hd⟩ := (s.mem_dueQueue _).1 hi
    obtain ⟨d', hd'⟩ := (s.mem_dueQueue _).1 hj
    exact hdue _ _ d d' hd hd' hij
  · exact s.pairwise_waitingList.imp_of_mem fun hi hj =>
      hwaiting _ _ ((s.mem_waitingList _).1 hi).2 ((s.mem_waitingList _).1 hj).2
  · obtain ⟨d, hd⟩ := (s.mem_dueQueue i).1 hi
    exact hcross i j d hd ((s.mem_waitingList j).1 hj).2

/-- Settles O24: the due queue is sorted by distance and then by slot, and the waiting list, in slot order, follows. -/
theorem listReportsInOrder : Obligations.ListReportsInOrder := by
  refine ⟨fun i d s => s.dueOf_eq_some_iff i d, fun p k s hreq => ?_⟩
  rw [exec_list_of_requested hreq]
  refine ⟨fun hk => ?_, fun hk => ⟨s.listOf p, ?_, s.nodup_listOf p, s.mem_listOf p,
    State.pairwise_listOf p (fun i j d d' hd hd' h => ?_) (fun i j d hd hd' => ?_) (fun i j hd hd' h => ?_)⟩⟩
  · rw [State.takeList, if_pos hk]
  · rw [State.takeList, if_neg (by omega)]
    rfl
  · simpa only [State.DueBefore, State.dueDistance, hd, hd', Option.getD_some] using h
  · simp only [hd, hd']
  · simpa only [hd, hd'] using h

end Sys2Proof.Machine
end

section
/-! SUPPORT. STATUS, question by question: the questions it asks, the end it comes to, and the events that wait for it. -/

namespace Sys2Proof.Machine

variable {s : State} {p : PortId} {mark : Bool} {question : StatusQuestion} {a : Asked} {record : StatusRecord}

/-! ### The questions and their answers -/

theorem Session.settled_iff (se : Session) :
    se.settled = true ↔ se.departure = .none ∧ se.orphan = false ∧ se.parting = none := by
  simp [Session.settled]

theorem Session.exists_record {se : Session} (h : ∀ other, a.has other = true) : ∃ record, se.record a = some record := by
  obtain ⟨⟨notices, marker⟩, hn⟩ := Option.isSome_iff_exists.1 (h .noticeCount)
  obtain ⟨lines, hl⟩ := Option.isSome_iff_exists.1 (h .ownedLines)
  obtain ⟨entries, he⟩ := Option.isSome_iff_exists.1 (h .entryCount)
  obtain ⟨value, hv⟩ := Option.isSome_iff_exists.1 (h .timebaseValue)
  simp [Session.record, hn, hl, he, hv]

/-- A question without its answer leaves the STATUS without its results. -/
theorem Session.record_eq_none {se : Session} (h : ∃ other, a.has other = false) : se.record a = none := by
  obtain ⟨other, h⟩ := h
  unfold Session.record
  split
  · next hn hl he hv => cases other <;> simp [Asked.has, hn, hl, he, hv] at h
  · rfl

/-! ### The end of a STATUS -/

theorem State.endStatus_of_recovering {cause : RecoveryCause} (h : (s.port p).session.state = .recovering cause) :
    s.endStatus p record = s.withPort p ({ s.port p with
      session := { (s.port p).session with
        state := .attached, attachedSinceReset := true, waiting := none, asking := none,
        lapseCount := lapseFor (s.port p).session.heartbeat }
      wires := { (s.port p).wires with
        toQueue := (s.port p).wires.toQueue ++ [ToQueue.attachment] } }.answered .ok (.status record)) := by
  simp only [State.endStatus, h, State.reply, State.updWires, State.updSession, State.updPort_eq_withPort,
    State.withPort_withPort, State.withPort_port_same]
  rfl

theorem State.endStatus_of_attached (h : (s.port p).session.state = .attached) :
    s.endStatus p record = s.withPort p ({ s.port p with
      session := { (s.port p).session with waiting := none, asking := none } }.answered .ok (.status record)) := by
  simp only [State.endStatus, h, State.reply, State.updWires, State.updSession, State.updPort_eq_withPort,
    State.withPort_withPort, State.withPort_port_same]
  rfl

/-- A STATUS that ends leaves its port ATTACHED with no waiting request. -/
theorem State.endStatus_attaches (h : (s.port p).session.state ≠ .detached) : ∃ pt : Port,
    s.endStatus p record = s.withPort p (pt.answered .ok (.status record)) ∧ pt.session.state = .attached ∧
      pt.session.waiting = none := by
  cases hs : (s.port p).session.state with
  | detached => exact absurd hs h
  | recovering cause => exact ⟨_, State.endStatus_of_recovering hs, rfl, rfl⟩
  | attached => exact ⟨_, State.endStatus_of_attached hs, hs, rfl⟩

/-! ### STATUS taken by the session controller -/

section Requested
variable (h : SessionRequested s p ⟨.status, mark⟩)
include h

theorem exec_status_of_detached (hs : (s.port p).session.state = .detached) :
    exec (.status ⟨p, question⟩) s = .next s := by
  show execStatus ⟨p, question⟩ s = _
  rw [execStatus, (s.sessionRequest_iff p _).2 h]
  exact if_pos hs

theorem exec_status_of_held (hs : (s.port p).session.state ≠ .detached) (hheld : ¬ (s.port p).session.settled = true) :
    exec (.status ⟨p, question⟩) s = .next (s.withPort p { s.port p with
      session := { (s.port p).session with waiting := some ⟨.status, true⟩ } }) := by
  show execStatus ⟨p, question⟩ s = _
  rw [execStatus, (s.sessionRequest_iff p _).2 h]
  exact (if_neg hs).trans (if_neg hheld)

theorem exec_status_of_settled (hs : (s.port p).session.state ≠ .detached) (hsettled : (s.port p).session.settled = true) :
    exec (.status ⟨p, question⟩) s = .next (s.takeQuestion p question) := by
  show execStatus ⟨p, question⟩ s = _
  rw [execStatus, (s.sessionRequest_iff p _).2 h]
  exact (if_neg hs).trans (if_pos hsettled)

end Requested

/-! ### A question taken by its block -/

/-- The state with the answers that the STATUS of port p has so far. -/
def State.withAsked (s : State) (p : PortId) (a : Asked) : State :=
  s.withPort p { s.port p with session := { (s.port p).session with asking := some a } }

/-- The answers that the STATUS of port p has so far (R168). -/
def State.asked (s : State) (p : PortId) : Asked := (s.port p).session.asking.getD .start

theorem State.takeQuestion_of_waiting
    (h : (s.asked p).has question = true ∨ (s.port p).wires.reached question = false) :
    s.takeQuestion p question = s := by
  refine if_pos ?_
  rw [Bool.or_eq_true, Bool.not_eq_true']
  exact h

section Taken
variable (hnew : (s.asked p).has question = false) (hreached : (s.port p).wires.reached question = true)
include hnew hreached

theorem State.takeQuestion_of_record (h : (s.port p).session.record (s.answer p (s.asked p) question) = some record) :
    s.takeQuestion p question = s.endStatus p record := by
  unfold State.takeQuestion
  dsimp only
  rw [← State.asked, if_neg (by simp [hnew, hreached]), h]

theorem State.takeQuestion_of_open (h : ∃ other, (s.answer p (s.asked p) question).has other = false) :
    s.takeQuestion p question = s.withAsked p (s.answer p (s.asked p) question) := by
  unfold State.takeQuestion
  dsimp only
  rw [← State.asked, if_neg (by simp [hnew, hreached]), Session.record_eq_none h]
  rfl

end Taken

/-! ### Four questions asked one after the other -/

/-- A STATUS of port p that nothing holds and whose four questions reach their blocks. -/
structure StatusReady (s : State) (p : PortId) (mark : Bool) : Prop where
  requested : SessionRequested s p ⟨.status, mark⟩
  present : (s.port p).session.state ≠ .detached
  settled : (s.port p).session.settled = true
  reached : ∀ question, (s.port p).wires.reached question = true

@[simp] theorem State.withAsked_asked (s : State) (p : PortId) (a : Asked) : (s.withAsked p a).asked p = a := by
  simp [State.asked, State.withAsked]

@[simp] theorem State.withAsked_withAsked (s : State) (p : PortId) (a b : Asked) :
    (s.withAsked p a).withAsked p b = s.withAsked p b := by simp [State.withAsked]

/-- The blocks answer from what the answers so far do not change. -/
@[simp] theorem State.withAsked_answer (s : State) (p : PortId) (a b : Asked) (question : StatusQuestion) :
    (s.withAsked p a).answer p b question = s.answer p b question := by
  cases question <;> simp [State.withAsked, State.answer, State.ownedLines, State.pendingCount]

@[simp] theorem State.withAsked_record (s : State) (p : PortId) (a b : Asked) :
    ((s.withAsked p a).port p).session.record b = (s.port p).session.record b := by
  simp only [State.withAsked, State.withPort_port_same]
  rfl

theorem StatusReady.withAsked (h : StatusReady s p mark) (a : Asked) : StatusReady (s.withAsked p a) p mark := by
  obtain ⟨hreq, hpresent, hsettled, hreached⟩ := h
  constructor <;> simp only [State.withAsked, State.withPort_port_same, SessionRequested]
  · exact hreq
  · exact hpresent
  · exact hsettled
  · exact hreached

theorem StatusReady.ask (h : StatusReady s p mark) (hasked : s.asked p = a) (hnew : a.has question = false)
    (hopen : ∃ other, (s.answer p a question).has other = false) :
    exec (.status ⟨p, question⟩) s = .next (s.withAsked p (s.answer p a question)) := by
  subst hasked
  rw [exec_status_of_settled h.requested h.present h.settled,
    State.takeQuestion_of_open hnew (h.reached question) hopen]

theorem StatusReady.askNext (h : StatusReady s p mark) (hnew : a.has question = false)
    (hopen : ∃ other, (s.answer p a question).has other = false) :
    exec (.status ⟨p, question⟩) (s.withAsked p a) = .next (s.withAsked p (s.answer p a question)) := by
  simpa using (h.withAsked a).ask (s.withAsked_asked p a) hnew (by simpa using hopen)

theorem StatusReady.askLast (h : StatusReady s p mark) (hnew : a.has question = false)
    (hrecord : (s.port p).session.record (s.answer p a question) = some record) :
    exec (.status ⟨p, question⟩) (s.withAsked p a) = .next ((s.withAsked p a).endStatus p record) := by
  have hready := h.withAsked a
  rw [exec_status_of_settled hready.requested hready.present hready.settled,
    State.takeQuestion_of_record (by simpa using hnew) (hready.reached question) (by simpa using hrecord)]

/-- The results of R168 from the values of one moment. -/
def State.statusRecord (s : State) (p : PortId) : StatusRecord where
  previous := (s.port p).session.state
  notices := (s.port p).queue.notInFlight
  marker := (s.port p).queue.droppedTotal
  heartbeat := (s.port p).session.heartbeat
  ownedLines := s.ownedLines p
  pendingEntries := s.pendingCount p
  timebaseValue := s.timebase.value

theorem StatusReady.askAll (h : StatusReady s p mark) (hstart : s.asked p = .start) :
    ∃ a, runSteps [.status ⟨p, .noticeCount⟩, .status ⟨p, .ownedLines⟩, .status ⟨p, .entryCount⟩,
      .status ⟨p, .timebaseValue⟩] s = .next ((s.withAsked p a).endStatus p (s.statusRecord p)) := by
  have hfirst := h.ask (question := .noticeCount) hstart rfl ⟨.ownedLines, rfl⟩
  have hsecond := h.askNext (a := s.answer p .start .noticeCount) (question := .ownedLines) rfl ⟨.entryCount, rfl⟩
  have hthird := h.askNext (a := s.answer p (s.answer p .start .noticeCount) .ownedLines) (question := .entryCount) rfl
    ⟨.timebaseValue, rfl⟩
  have hlast := h.askLast (a := s.answer p (s.answer p (s.answer p .start .noticeCount) .ownedLines) .entryCount)
    (question := .timebaseValue) (record := s.statusRecord p) rfl rfl
  rw [runSteps_cons_of_next hfirst, runSteps_cons_of_next hsecond, runSteps_cons_of_next hthird,
    runSteps_singleton hlast]
  exact ⟨_, hlast⟩

/-! ### Events that wait for the end of a STATUS -/

/-- A session controller that is answering a STATUS takes no other event (log 28). -/
theorem exec_of_asking {c : Instr} (h : s.asking p = true)
    (hc : c ∈ [Instr.reportOfLinkpRising p, .reportOfLinkpFalling p, .sessionControllerTick p, .lapse p,
      .acceptanceReport p, .settlementReport p, .withdrawalRequest p .session, .orphanCompletionReply p,
      .partingStepReply p, .flushReply p]) : exec c s = .next s := by
  simp only [List.mem_cons, List.not_mem_nil, or_false] at hc
  obtain rfl | rfl | rfl | rfl | rfl | rfl | rfl | rfl | rfl | rfl := hc
  · show execReportOfLinkpRising p s = _
    unfold execReportOfLinkpRising
    split
    exacts [if_pos h, rfl]
  · show execReportOfLinkpFalling p s = _
    unfold execReportOfLinkpFalling
    split
    exacts [if_pos h, rfl]
  · show execSessionControllerTick p s = _
    unfold execSessionControllerTick
    split
    exacts [if_pos h, rfl]
  · exact if_neg (by simp [State.lapses, h])
  · show execAcceptanceReport p s = _
    unfold execAcceptanceReport
    split
    exacts [if_pos h, rfl]
  · show execSettlementReport p s = _
    unfold execSettlementReport
    split
    exacts [if_pos h, rfl]
  · show execWithdrawalRequest p .session s = _
    unfold execWithdrawalRequest
    split
    exacts [if_pos ⟨rfl, h⟩, rfl]
  · exact if_neg (by simp [h])
  · show execPartingStepReply p s = _
    unfold execPartingStepReply
    split
    exacts [if_pos (.inr h), rfl]
  · show execFlushReply p s = _
    unfold execFlushReply
    split
    exacts [if_neg (by simp [h]), rfl]

/-- Settles O50, by the outcomes of a question taken, and the four questions one after the other. -/
theorem statusAttachesOrIsHeld : Obligations.StatusAttachesOrIsHeld := by
  refine ⟨fun p mark question s hreq => ?_, fun p a s => ⟨rfl, rfl, rfl, _, rfl, s.hasLine_ownedLines p⟩,
    fun a w se n k m ls v => ?_,
    fun p mark s hreq hasking hqueue hlines hparting hdep horphan hpart hpresent => ?_,
    fun p c s hasking hc => ?_⟩
  · dsimp only
    rw [← Session.settled_iff]
    refine ⟨exec_status_of_detached hreq, fun hheld hs => exec_status_of_held hreq hs hheld,
      fun hsettled hs hwaits => ?_, fun hsettled hs hnew hreached => ⟨fun hopen => ?_, fun hall => ?_⟩⟩
    · rw [exec_status_of_settled hreq hs hsettled, State.takeQuestion_of_waiting hwaits]
    · rw [exec_status_of_settled hreq hs hsettled]
      exact congrArg _ (State.takeQuestion_of_open hnew hreached hopen)
    · obtain ⟨record, hrecord⟩ := Session.exists_record (se := (s.port p).session) hall
      refine ⟨record, hrecord, fun cause hcause => ?_, fun hattached => ?_⟩
      · rw [exec_status_of_settled hreq hs hsettled, State.takeQuestion_of_record hnew hreached hrecord,
          State.endStatus_of_recovering hcause]
        rfl
      · rw [exec_status_of_settled hreq hs hsettled, State.takeQuestion_of_record hnew hreached hrecord,
          State.endStatus_of_attached hattached]
  · simp [Asked.has, Asked.start, Wires.reached, Session.record, Option.isSome_iff_ne_none]
  · have hready : StatusReady s p mark :=
      { requested := hreq
        present := hpresent
        settled := (Session.settled_iff _).2 ⟨hdep, horphan, hpart⟩
        reached := fun question => by cases question <;> simp [Wires.reached, hqueue, hlines, hparting] }
    obtain ⟨a, hrun⟩ := hready.askAll (by rw [State.asked, hasking]; rfl)
    obtain ⟨pt, hend, hattached, hwaiting⟩ :=
      State.endStatus_attaches (record := s.statusRecord p) (hready.withAsked a).present
    rw [State.withAsked, State.withPort_withPort] at hend
    refine ⟨s.statusRecord p, pt, hrun.trans (congrArg _ hend), rfl, rfl, rfl, rfl, s.hasLine_ownedLines p, rfl, rfl,
      hattached, hwaiting⟩
  · exact exec_of_asking (by rwa [State.asking, Option.isSome_iff_ne_none]) hc

end Sys2Proof.Machine
end

section
/-! SUPPORT. The word question of a PATTERN firing, and the advance of its position. -/

namespace Sys2Proof.Machine

variable {st : PatternStore} {seg : Fin 8} {g : Segment} {pos : Nat}

/-! ### The word question (R101) -/

/-- Inside an allocated segment the answer is a store word, never the free value (log 19). -/
theorem PatternStore.word_of_segment {w : Fin 256} (hg : st.segments[seg] = some g) (hpos : pos < g.length)
    (hw : w.val = g.base + pos) : st.word seg pos = st.words[w] := by
  have hinside : pos < g.length ∧ g.base + pos < 256 := ⟨hpos, hw ▸ w.isLt⟩
  simp only [PatternStore.word, hg, dif_pos hinside, Fin.getElem_fin, hw]

/-! ### The position after a firing (R70) -/

theorem Action.advanced_pattern (hg : st.segments[seg] = some g) :
    (Action.pattern seg pos).advanced st = .pattern seg (if pos + 1 = g.length then 0 else pos + 1) := by
  simp only [Action.advanced, hg, Option.any_some, decide_eq_true_eq]

/-- At the last word of the segment the position returns to 0. -/
theorem Action.advanced_pattern_of_last (hg : st.segments[seg] = some g) (hlast : pos + 1 = g.length) :
    (Action.pattern seg pos).advanced st = .pattern seg 0 := by
  rw [Action.advanced_pattern hg, if_pos hlast]

/-- Before the last word the position goes one further. -/
theorem Action.advanced_pattern_of_not_last (hg : st.segments[seg] = some g) (hmore : pos + 1 ≠ g.length) :
    (Action.pattern seg pos).advanced st = .pattern seg (pos + 1) := by
  rw [Action.advanced_pattern hg, if_neg hmore]

/-- Settles O19, by the answer inside a segment and the advance at its last word and before it; an action without a
position has none to advance. -/
theorem patternFiringsReadAndAdvance : Obligations.PatternFiringsReadAndAdvance :=
  ⟨fun _ _ _ _ _ => PatternStore.word_of_segment,
    fun _ _ _ _ hg _ => ⟨Action.advanced_pattern_of_last hg, Action.advanced_pattern_of_not_last hg, rfl, rfl, rfl⟩⟩

end Sys2Proof.Machine
end

section
/-! SUPPORT. ALLOC, FREE and LOAD: the free record and the base that ALLOC takes, the segment that FREE and LOAD name, and
each command's outcomes (R91, R92, R94, R95, R97, R98). -/

namespace Sys2Proof.Machine

variable {s : State} {p : PortId} {st : PatternStore} {k : Fin 8} {g : Segment}

/-! ### The lowest-numbered free record (R92) -/

theorem PatternStore.freeRecord_of_full (h : ∀ k : Fin 8, st.segments[k] ≠ none) : st.freeRecord = none := by
  simpa [PatternStore.freeRecord] using h

theorem PatternStore.freeRecord_of_lowest (hk : st.segments[k] = none) (hlowest : ∀ j : Fin 8, j < k → st.segments[j] ≠ none) :
    st.freeRecord = some k :=
  find_lowest _ k (by simp only [hk, Option.isNone_none]) fun j hj =>
    Option.isNone_eq_false_iff.2 (Option.isSome_iff_ne_none.2 (hlowest j hj))

/-! ### The lowest base (R92) -/

/-- Words do not fit where a segment meets them. -/
theorem PatternStore.fits_eq_false {n b : Nat} (h : ∃ (j : Fin 8) (g : Segment), st.segments[j] = some g ∧
    ¬ (b + n ≤ g.base ∨ g.base + g.length ≤ b)) : st.fits n b = false := by
  obtain ⟨j, g, hj, hmeet⟩ := h
  rw [Bool.eq_false_iff, Ne, PatternStore.fits_iff]
  exact fun hfits => hmeet (hfits.2 j g hj)

theorem PatternStore.firstFit_of_none {n : Nat} (h : ∀ b, b + n ≤ 256 → ∃ (j : Fin 8) (g : Segment),
    st.segments[j] = some g ∧ ¬ (b + n ≤ g.base ∨ g.base + g.length ≤ b)) : st.firstFit n = none := by
  refine List.find?_eq_none.2 fun b _ hfits => ?_
  have hmet : st.fits n b = false := PatternStore.fits_eq_false (h b ((st.fits_iff n b).1 hfits).1)
  exact absurd hfits (Bool.eq_false_iff.1 hmet)

/-- First fit finds a base whose words fit, when a segment meets the words of every lower base. -/
theorem PatternStore.firstFit_of_lowest {n b : Nat} (hn : 1 ≤ n) (hin : b + n ≤ 256)
    (hfree : ∀ (j : Fin 8) (g : Segment), st.segments[j] = some g → b + n ≤ g.base ∨ g.base + g.length ≤ b)
    (hlowest : ∀ b', b' < b → ∃ (j : Fin 8) (g : Segment), st.segments[j] = some g ∧
      ¬ (b' + n ≤ g.base ∨ g.base + g.length ≤ b')) : st.firstFit n = some b := by
  refine List.find?_range_eq_some.2 ⟨(st.fits_iff n b).2 ⟨hin, hfree⟩, List.mem_range.2 (by omega), fun b' hb' => ?_⟩
  rw [PatternStore.fits_eq_false (hlowest b' hb'), Bool.not_false]

/-! ### ALLOC -/

theorem State.takeAlloc_of_badArg {n : BitVec 16} (h : n.toNat = 0 ∨ 256 < n.toNat) :
    s.takeAlloc p n = s.finish p .badArg .empty := if_pos h

theorem State.takeAlloc_of_full {n : BitVec 16} (hlow : 1 ≤ n.toNat) (hhigh : n.toNat ≤ 256)
    (h : s.store.freeRecord = none) : s.takeAlloc p n = s.finish p .full .empty := by
  have hrange : ¬ (n.toNat = 0 ∨ 256 < n.toNat) := by omega
  simp only [State.takeAlloc, if_neg hrange, h]

/-- Settles O16: the search for a free record and the search for a base each find the lowest there is, or none. -/
theorem allocTakesTheFirstFit : Obligations.AllocTakesTheFirstFit := by
  refine ⟨fun p n s hreq => ?_, fun p n k b s hreq hlow hhigh hk hlowest hin hfree hlowestBase => ?_⟩
  · rw [exec_alloc_of_requested hreq]
    refine ⟨fun hbad => ?_, fun hlow hhigh hfull => ?_, fun hlow hhigh hfree hmet => ?_⟩
    · rw [State.takeAlloc_of_badArg hbad]
    · rw [State.takeAlloc_of_full hlow hhigh (PatternStore.freeRecord_of_full hfull)]
    · obtain ⟨k, hk⟩ := PatternStore.freeRecord_of_free hfree
      rw [(State.takeAlloc_of_free hlow hhigh hk).2 (PatternStore.firstFit_of_none hmet)]
  · have hrecord : s.store.freeRecord = some k := PatternStore.freeRecord_of_lowest hk hlowest
    have hbase : s.store.firstFit n.toNat = some b := PatternStore.firstFit_of_lowest hlow hin hfree hlowestBase
    rw [exec_alloc_of_requested hreq, (State.takeAlloc_of_free hlow hhigh hrecord).1 b hbase]

/-! ### The segment that FREE and LOAD name -/

theorem State.segmentOf_of_own (hg : s.store.segments[k] = some g) (hown : g.owner = p) : s.segmentOf p k = some g := by
  simp only [State.segmentOf, hg, if_pos hown]

/-- A free record and another port's are not the port's. -/
theorem State.segmentOf_of_not_own (h : ∀ g, s.store.segments[k] = some g → g.owner ≠ p) : s.segmentOf p k = none := by
  rw [← Option.not_isSome_iff_eq_none, State.segmentOf_isSome_iff]
  rintro ⟨g, hg, hown⟩
  exact h g hg hown

/-! ### FREE -/

section Free
variable {b : Byte}

theorem exec_free_of_requested (h : Requested s p (.free b)) : exec (.free p) s = .next (s.takeFree p b) := by
  show execFree p s = _
  rw [execFree, (s.request_iff p _).2 h]

theorem State.takeFree_of_badArg (h : 7 < b.toNat) : s.takeFree p b = s.finish p .badArg .empty := by
  rw [State.takeFree, below_of_le h]

theorem State.takeFree_of_not_owner (hb : b.toNat = k.val) (h : ∀ g, s.store.segments[k] = some g → g.owner ≠ p) :
    s.takeFree p b = s.finish p .notOwner .empty := by
  simp only [State.takeFree, below_of_eq hb, State.segmentOf_of_not_own h]

theorem State.takeFree_of_own (hb : b.toNat = k.val) (hg : s.store.segments[k] = some g) (hown : g.owner = p) :
    s.takeFree p b = if s.segmentReferenced k then s.finish p .inUse .empty else
      { s.finish p .ok (.free g.base g.length) with
        store := { s.store with segments := s.store.segments.set k none } } := by
  simp only [State.takeFree, below_of_eq hb, State.segmentOf_of_own hg hown]
  rfl

end Free

/-- Settles O17: the number, the owner and then the pending PATTERN entries decide. -/
theorem freeFreesAnUnreferencedSegment : Obligations.FreeFreesAnUnreferencedSegment := by
  refine ⟨fun p b s hreq => ?_, fun p b k g s hreq hb hg hown hunnamed => ?_⟩
  · rw [exec_free_of_requested hreq]
    refine ⟨fun hbad => ?_, fun k hb => ⟨fun hother => ?_, fun g hg hown hnamed => ?_⟩⟩
    · rw [State.takeFree_of_badArg hbad]
    · rw [State.takeFree_of_not_owner hb hother]
    · rw [State.takeFree_of_own hb hg hown, if_pos ((s.segmentReferenced_iff k).2 hnamed)]
  · have hfree : ¬ s.segmentReferenced k = true := by
      rw [State.segmentReferenced_iff]
      rintro ⟨i, e, pos, he, hnames⟩
      exact hunnamed i e pos he hnames
    rw [exec_free_of_requested hreq, State.takeFree_of_own hb hg hown, if_neg hfree]

/-! ### LOAD -/

section Load
variable {b offset : Byte} {ws : List LevelSet}

/-- The words that bound a LOAD into record k: its length, and the whole store for a free record (R97). -/
def PatternStore.loadBound (st : PatternStore) (k : Fin 8) : Nat := (st.segments[k].map Segment.length).getD 256

theorem PatternStore.loadBound_of_some (h : st.segments[k] = some g) : st.loadBound k = g.length := by
  simp only [PatternStore.loadBound, h, Option.map_some, Option.getD_some]

theorem PatternStore.loadBound_of_none (h : st.segments[k] = none) : st.loadBound k = 256 := by
  simp only [PatternStore.loadBound, h, Option.map_none, Option.getD_none]

theorem exec_load_of_requested (h : Requested s p (.load b offset ws)) :
    exec (.load p) s = .next (s.takeLoad p b offset ws) := by
  show execLoad p s = _
  rw [execLoad, (s.request_iff p _).2 h]

theorem State.takeLoad_of_number (h : 7 < b.toNat) : s.takeLoad p b offset ws = s.finish p .badArg .empty := by
  rw [State.takeLoad, below_of_le h]

/-- A LOAD of no word, of too many, or beyond its bound is refused whatever the record. -/
theorem State.takeLoad_of_count (hb : b.toNat = k.val)
    (h : ws.length = 0 ∨ 32 < ws.length ∨ s.store.loadBound k < offset.toNat + ws.length) :
    s.takeLoad p b offset ws = s.finish p .badArg .empty := by
  rw [State.takeLoad, below_of_eq hb]
  exact if_pos h

theorem not_load_out_of_range {bound : Nat} (hlow : 1 ≤ ws.length) (hhigh : ws.length ≤ 32)
    (hbound : offset.toNat + ws.length ≤ bound) :
    ¬ (ws.length = 0 ∨ 32 < ws.length ∨ bound < offset.toNat + ws.length) := by omega

theorem State.takeLoad_of_not_owner (hb : b.toNat = k.val) (hlow : 1 ≤ ws.length) (hhigh : ws.length ≤ 32)
    (hbound : offset.toNat + ws.length ≤ s.store.loadBound k) (h : ∀ g, s.store.segments[k] = some g → g.owner ≠ p) :
    s.takeLoad p b offset ws = s.finish p .notOwner .empty := by
  simp only [State.takeLoad, below_of_eq hb, State.segmentOf_of_not_own h]
  exact if_neg (not_load_out_of_range hlow hhigh hbound)

theorem State.takeLoad_of_own (hb : b.toNat = k.val) (hlow : 1 ≤ ws.length) (hhigh : ws.length ≤ 32)
    (hg : s.store.segments[k] = some g) (hown : g.owner = p) (hbound : offset.toNat + ws.length ≤ g.length) :
    s.takeLoad p b offset ws = { s.finish p .ok .empty with
      store := { s.store with words := writeWords s.store.words (g.base + offset.toNat) ws } } := by
  rw [← PatternStore.loadBound_of_some hg] at hbound
  simp only [State.takeLoad, below_of_eq hb, State.segmentOf_of_own hg hown]
  exact if_neg (not_load_out_of_range hlow hhigh hbound)

/-- A word of the run written holds the word given for its place. -/
theorem writeWords_at {v : Vector LevelSet 256} {start i : Nat} {w : Fin 256} (hi : i < ws.length)
    (hw : w.val = start + i) : (writeWords v start ws)[w] = ws[i] := by
  rw [writeWords_get, dif_pos (by omega)]
  congr 1
  omega

/-- A word outside the run written keeps its levels. -/
theorem writeWords_outside {v : Vector LevelSet 256} {start : Nat} {w : Fin 256}
    (hw : w.val < start ∨ start + ws.length ≤ w.val) : (writeWords v start ws)[w] = v[w] := by
  rw [writeWords_get, dif_neg (by omega)]

end Load

/-- Settles O18: the number, the count against the bound and then the owner decide, and the run is written word by word. -/
theorem loadWritesWithinTheSegment : Obligations.LoadWritesWithinTheSegment := by
  refine ⟨fun p b offset ws s hreq => ?_, fun p b offset ws k g s hreq hb hg hown hlow hhigh hin _ => ?_⟩
  · rw [exec_load_of_requested hreq]
    refine ⟨fun hbad => ?_, fun k hb hlow hhigh => ⟨fun g hg hlong => ?_, fun g hg hin hother => ?_, fun hfree hlong => ?_,
      fun hfree hin => ?_⟩⟩
    · by_cases hnumber : 7 < b.toNat
      · rw [State.takeLoad_of_number hnumber]
      · have hb : b.toNat = (⟨b.toNat, by omega⟩ : Fin 8).val := rfl
        rw [State.takeLoad_of_count hb ((hbad.resolve_left hnumber).imp_right .inl)]
    · rw [State.takeLoad_of_count hb (.inr (.inr (PatternStore.loadBound_of_some hg ▸ hlong)))]
    · rw [← PatternStore.loadBound_of_some hg] at hin
      rw [State.takeLoad_of_not_owner hb hlow hhigh hin fun g' hg' => by rwa [← Option.some.inj (hg.symm.trans hg')]]
    · rw [State.takeLoad_of_count hb (.inr (.inr (PatternStore.loadBound_of_none hfree ▸ hlong)))]
    · rw [← PatternStore.loadBound_of_none hfree] at hin
      rw [State.takeLoad_of_not_owner hb hlow hhigh hin fun g hg => by simp [hfree] at hg]
  · rw [exec_load_of_requested hreq, State.takeLoad_of_own hb hlow hhigh hg hown hin]
    exact ⟨_, rfl, fun i hi w hw => writeWords_at hi hw, fun w hw => writeWords_outside hw⟩

end Sys2Proof.Machine
end

section
/-! SUPPORT. The directions that an edge selection admits, and the turn of a slot in a release request (R110, R115, R116,
R117). -/

namespace Sys2Proof.Machine

variable {s : State} {r : ReleaseRequest} {i : SlotId} {e : Entry} {k : InputId} {sel : EdgeSelection}
  {offset : BitVec 24} {mark : Bool}

theorem EdgeSelection.admits_iff (sel : EdgeSelection) (d : Direction) : sel.admits d = true ↔
    sel = .either ∨ (sel = .rise ∧ d = .rise) ∨ (sel = .fall ∧ d = .fall) := by
  cases sel <;> cases d <;> decide

/-! ### The entries that a release request matches (R116) -/

theorem Entry.matchedBy_of_timed {due : Tick} (h : e.state = .timed due) : e.matchedBy r = none := by
  rw [Entry.matchedBy, h]

theorem Entry.matchedBy_of_waiting (h : e.state = .waiting k sel offset mark) : e.matchedBy r =
    if k = r.input ∧ mark = false ∧
        (sel = .either ∨ (sel = .rise ∧ r.direction = .rise) ∨ (sel = .fall ∧ r.direction = .fall))
      then some offset else none := by
  rw [Entry.matchedBy, h]
  simp only [EdgeSelection.admits_iff, and_comm]

/-! ### The turn of one slot (R117) -/

theorem State.releaseSlot_of_free (h : s.entry i = none) : State.releaseSlot r s i = s := by
  simp only [State.releaseSlot, h]

theorem State.releaseSlot_of_unmatched (he : s.entry i = some e) (h : e.matchedBy r = none) :
    State.releaseSlot r s i = s := by
  simp only [State.releaseSlot, he, h]

theorem State.releaseSlot_of_matched (he : s.entry i = some e) (h : e.matchedBy r = some offset) :
    State.releaseSlot r s i =
      if s.schedule.dueHeld (some i) e.lines (later r.tick offset) then
        (s.endEntry i).postSchedule e.port (e.cancelledNotice (s.handle i) r.tick e.remaining .collided)
      else s.place i { e with state := .timed (later r.tick offset) } := by
  simp only [State.releaseSlot, he, h]

/-- The entry of a slot that has its turn is WAITING and holds no due tick: only other slots can collide with it. -/
theorem not_holdsDue_of_matched {ls : LineSet} {due : Tick} (he : s.entry i = some e) (h : e.matchedBy r = some offset) :
    ¬ HoldsDue s i ls due := by
  rintro ⟨e', he', hdue, -⟩
  obtain rfl : e = e' := Option.some.inj (he.symm.trans he')
  rw [Entry.matchedBy_of_timed hdue] at h
  cases h

theorem State.releaseSlot_becomes_timed (he : s.entry i = some e) (hm : e.matchedBy r = some offset)
    (hfree : ∀ j, ¬ HoldsDue s j e.lines (later r.tick offset)) :
    State.releaseSlot r s i = s.place i { e with state := .timed (later r.tick offset) } := by
  rw [State.releaseSlot_of_matched he hm, if_neg ((ScheduleUnit.not_dueHeld_iff s _ _ _).2 fun j _ => hfree j)]

theorem State.releaseSlot_collides (he : s.entry i = some e) (hm : e.matchedBy r = some offset)
    (hheld : ∃ j, HoldsDue s j e.lines (later r.tick offset)) : State.releaseSlot r s i =
      (s.endEntry i).postSchedule e.port (e.cancelledNotice (s.handle i) r.tick e.remaining .collided) := by
  obtain ⟨j, hj⟩ := hheld
  have hother : some i ≠ some j := by
    rintro ⟨⟩
    exact not_holdsDue_of_matched he hm hj
  rw [State.releaseSlot_of_matched he hm, if_pos ((ScheduleUnit.dueHeld_iff s _ _ _).2 ⟨j, hother, hj⟩)]

/-! ### RELEASE_REQUEST -/

/-- The request taken is the first one of the input that was captured at now (R115). -/
theorem exec_releaseRequest_of_first {before after : List ReleaseRequest} (h : s.releaseRequests = before ++ r :: after)
    (hnow : r.tick = s.schedule.now) (hfirst : ∀ r' ∈ before, r'.input = r.input → r'.tick ≠ s.schedule.now) :
    exec (.releaseRequest r.input) s = .next ({ s with releaseRequests := before ++ after }.takeReleaseRequest r) := by
  have hfound : (s.releaseRequests.find? fun r' => decide (r'.input = r.input ∧ r'.tick = s.schedule.now)) = some r := by
    rw [h, List.find?_append, List.find?_eq_none.2 (by simpa using hfirst)]
    simp [hnow]
  have hrest : s.releaseRequests.erase r = before ++ after := by
    rw [h, List.erase_append_right _ fun hr => hfirst r hr rfl hnow, List.erase_cons_head]
  show execReleaseRequest r.input s = _
  simp only [execReleaseRequest, hfound, hrest]

/-- Settles O27: the request found, and the turn of a slot by what stands in it and by the check for collision. -/
theorem releaseRequestsSetDueTicks : Obligations.ReleaseRequestsSetDueTicks := by
  refine ⟨fun k r before after s h hk hnow hfirst => ?_, fun r i s h => ?_, fun r i e k sel offset mark s he hw => ?_⟩
  · subst hk
    exact exec_releaseRequest_of_first h hnow hfirst
  · obtain hfree | ⟨e, due, he, hdue⟩ := h
    · exact State.releaseSlot_of_free hfree
    · exact State.releaseSlot_of_unmatched he (Entry.matchedBy_of_timed hdue)
  · have hmatch := Entry.matchedBy_of_waiting (r := r) hw
    refine ⟨fun hno => ?_, fun hyes hfree => ?_, fun hyes hheld => ?_⟩
    · exact State.releaseSlot_of_unmatched he (hmatch.trans (if_neg hno))
    · exact State.releaseSlot_becomes_timed he (hmatch.trans (if_pos hyes)) hfree
    · exact State.releaseSlot_collides he (hmatch.trans (if_pos hyes)) hheld

end Sys2Proof.Machine
end

section
/-! SUPPORT. The trigger unit: the turn of a subscription at an edge, SUBSCRIBE and UNSUBSCRIBE (R109 to R112). -/

namespace Sys2Proof.Machine

variable {s : State} {p : PortId} {sub : Subscription} {n : Fin 8}

/-! ### The turn of a subscription (R110, R111) -/

theorem Subscription.matched_iff (sub : Subscription) (k : InputId) (d : Direction) : sub.matched k d = true ↔
    sub.input = k ∧
      (sub.selection = .either ∨ (sub.selection = .rise ∧ d = .rise) ∨ (sub.selection = .fall ∧ d = .fall)) := by
  simp only [Subscription.matched, Bool.and_eq_true, decide_eq_true_eq, EdgeSelection.admits_iff]

theorem Subscription.counted_of_unbounded (h : sub.remaining = .unbounded) : sub.counted = some sub := by
  simp only [Subscription.counted, h]

/-- The last notice frees the place. -/
theorem Subscription.counted_of_one (h : sub.remaining = .counted 1) : sub.counted = none := by
  simp only [Subscription.counted, h, le_refl, if_true]

theorem Subscription.counted_of_more {m : Nat} (h : sub.remaining = .counted (m + 2)) :
    sub.counted = some { sub with remaining := .counted (m + 1) } := by
  have hmore : ¬ m + 2 ≤ 1 := by omega
  simp only [Subscription.counted, h, if_neg hmore, Nat.add_succ_sub_one]

section Turn
variable {k : InputId} {d : Direction} {tk : Tick}

theorem State.notifyPlace_of_unmatched (hsub : s.trigger.places[n] = some sub) (h : ¬ sub.matched k d = true) :
    State.notifyPlace k d tk s n = s := by
  simp only [State.notifyPlace, hsub, if_neg h]

theorem State.notifyPlace_of_matched (hsub : s.trigger.places[n] = some sub) (h : sub.matched k d = true) :
    State.notifyPlace k d tk s n =
      { s with trigger := { s.trigger with places := s.trigger.places.set n sub.counted } }.postTrigger sub.port
        (.captured tk k d n sub.counted.isNone) := by
  simp only [State.notifyPlace, hsub, if_pos h]

/-- A turn passes the place over or is that of a matching subscription. -/
theorem State.notifyPlace_cases (k : InputId) (d : Direction) (tk : Tick) (s : State) (n : Fin 8) :
    State.notifyPlace k d tk s n = s ∨ ∃ sub, s.trigger.places[n] = some sub ∧ sub.matched k d = true ∧
      State.notifyPlace k d tk s n =
        { s with trigger := { s.trigger with places := s.trigger.places.set n sub.counted } }.postTrigger sub.port
          (.captured tk k d n sub.counted.isNone) := by
  cases hsub : s.trigger.places[n] with
  | none => exact .inl (by simp only [State.notifyPlace, hsub])
  | some sub =>
    by_cases hm : sub.matched k d = true
    · exact .inr ⟨sub, rfl, hm, State.notifyPlace_of_matched hsub hm⟩
    · exact .inl (State.notifyPlace_of_unmatched hsub hm)

end Turn

/-- Settles O30, by the match and by what the notice leaves of the count. -/
theorem subscriptionsReportAndCountDown : Obligations.SubscriptionsReportAndCountDown := by
  intro k d tk n sub s hsub
  dsimp only
  rw [← Subscription.matched_iff]
  refine ⟨State.notifyPlace_of_unmatched hsub, fun hm h => ?_, fun hm h => ?_, fun m hm h => ?_⟩
  · rw [State.notifyPlace_of_matched hsub hm, Subscription.counted_of_unbounded h, Option.isNone_some]
  · rw [State.notifyPlace_of_matched hsub hm, Subscription.counted_of_one h, Option.isNone_none]
  · rw [State.notifyPlace_of_matched hsub hm, Subscription.counted_of_more h, Option.isNone_some]

/-! ### SUBSCRIBE (R109) -/

theorem TriggerUnit.freePlace_of_full {u : TriggerUnit} (h : ∀ n : Fin 8, u.places[n] ≠ none) : u.freePlace = none := by
  simpa [TriggerUnit.freePlace] using h

theorem TriggerUnit.freePlace_of_lowest {u : TriggerUnit} (hn : u.places[n] = none)
    (hlowest : ∀ m : Fin 8, m < n → u.places[m] ≠ none) : u.freePlace = some n :=
  find_lowest _ n (by simp only [hn, Option.isNone_none]) fun m hm =>
    Option.isNone_eq_false_iff.2 (Option.isSome_iff_ne_none.2 (hlowest m hm))

section Subscribe
variable {input selection : Byte} {count : BitVec 16} {k : InputId} {es : EdgeSelection}

theorem exec_subscribe_of_requested (h : Requested s p (.subscribe input selection count)) :
    exec (.subscribe p) s = .next (s.takeSubscribe p input selection count) := by
  show execSubscribe p s = _
  rw [execSubscribe, (s.request_iff p _).2 h]

theorem edgeSelectionOf_of_lt {b : Byte} (h : 2 < b.toNat) : edgeSelectionOf b = none := by
  refine Option.eq_none_iff_forall_ne_some.2 fun sel hsel => ?_
  obtain ⟨rfl, -⟩ | ⟨rfl, -⟩ | ⟨rfl, -⟩ := edgeSelectionOf_eq_some_iff.1 hsel <;> exact absurd h (by decide)

/-- With an input and a selection in range only the count is left to fail. -/
theorem State.takeSubscribe_of_badArg (h : 3 < input.toNat ∨ 2 < selection.toNat ∨ 255 < count.toNat) :
    s.takeSubscribe p input selection count = s.finish p .badArg .empty := by
  unfold State.takeSubscribe
  split
  · next k es hk hes =>
    have hinput : ¬ 3 < input.toNat := by
      have := below_eq_some_iff.1 hk
      omega
    have hselection : ¬ 2 < selection.toNat := fun hlt => by
      rw [edgeSelectionOf_of_lt hlt] at hes
      cases hes
    exact if_pos ((h.resolve_left hinput).resolve_left hselection)
  · rfl

theorem State.takeSubscribe_of_full (hk : input.toNat = k.val) (hes : edgeSelectionOf selection = some es)
    (hcount : count.toNat ≤ 255) (h : s.trigger.freePlace = none) :
    s.takeSubscribe p input selection count = s.finish p .full .empty := by
  simp only [State.takeSubscribe, below_of_eq hk, hes, if_neg (Nat.not_lt.2 hcount), h]

theorem State.takeSubscribe_of_free (hk : input.toNat = k.val) (hes : edgeSelectionOf selection = some es)
    (hcount : count.toNat ≤ 255) (h : s.trigger.freePlace = some n) :
    s.takeSubscribe p input selection count = { s.finish p .ok (.subscribe n) with
      trigger := { s.trigger with places := s.trigger.places.set n (some ⟨p, k, es, remainingOf count⟩) } } := by
  simp only [State.takeSubscribe, below_of_eq hk, hes, if_neg (Nat.not_lt.2 hcount), h]
  rfl

end Subscribe

/-! ### UNSUBSCRIBE (R112) -/

section Unsubscribe
variable {number : Byte}

theorem exec_unsubscribe_of_requested (h : Requested s p (.unsubscribe number)) :
    exec (.unsubscribe p) s = .next (s.takeUnsubscribe p number) := by
  show execUnsubscribe p s = _
  rw [execUnsubscribe, (s.request_iff p _).2 h]

theorem State.takeUnsubscribe_of_badArg (h : 7 < number.toNat) :
    s.takeUnsubscribe p number = s.finish p .badArg .empty := by
  rw [State.takeUnsubscribe, below_of_le h]

theorem State.takeUnsubscribe_of_free (hn : number.toNat = n.val) (h : s.trigger.places[n] = none) :
    s.takeUnsubscribe p number = s.finish p .notFound .empty := by
  simp only [State.takeUnsubscribe, below_of_eq hn, h]

theorem State.takeUnsubscribe_of_not_owner (hn : number.toNat = n.val) (hsub : s.trigger.places[n] = some sub)
    (h : sub.port ≠ p) : s.takeUnsubscribe p number = s.finish p .notOwner .empty := by
  simp only [State.takeUnsubscribe, below_of_eq hn, hsub, if_pos h]

theorem State.takeUnsubscribe_of_own (hn : number.toNat = n.val) (hsub : s.trigger.places[n] = some sub)
    (h : sub.port = p) : s.takeUnsubscribe p number = { s.finish p .ok (.unsubscribe sub.remaining) with
      trigger := { s.trigger with places := s.trigger.places.set n none } } := by
  simp only [State.takeUnsubscribe, below_of_eq hn, hsub, if_neg (not_not.2 h)]
  rfl

end Unsubscribe

/-- Settles O31: the arguments and then the places decide SUBSCRIBE; the number, the place and its port UNSUBSCRIBE. -/
theorem subscribeAndUnsubscribe : Obligations.SubscribeAndUnsubscribe := by
  refine ⟨fun p input sel count s hreq => ?_, fun p number s hreq => ?_⟩
  · rw [exec_subscribe_of_requested hreq]
    refine ⟨fun hbad => ?_, fun k es hk hsel hcount => ⟨fun hfull => ?_, fun n hn hlowest => ?_⟩⟩
    · rw [State.takeSubscribe_of_badArg hbad]
    · rw [State.takeSubscribe_of_full hk (edgeSelectionOf_eq_some_iff.2 hsel) hcount
        (TriggerUnit.freePlace_of_full hfull)]
    · rw [State.takeSubscribe_of_free hk (edgeSelectionOf_eq_some_iff.2 hsel) hcount
        (TriggerUnit.freePlace_of_lowest hn hlowest)]
      rfl
  · rw [exec_unsubscribe_of_requested hreq]
    refine ⟨fun hbad => ?_, fun n hn => ⟨fun hfree => ?_, fun sub hsub => ⟨fun hother => ?_, fun hown => ?_⟩⟩⟩
    · rw [State.takeUnsubscribe_of_badArg hbad]
    · rw [State.takeUnsubscribe_of_free hn hfree]
    · rw [State.takeUnsubscribe_of_not_owner hn hsub hother]
    · rw [State.takeUnsubscribe_of_own hn hsub hown]

end Sys2Proof.Machine
end

section
/-! SUPPORT. The tick at the trigger unit: the sample of one input, what the turn of an input changes, and the four turns
one after the other (R104 to R107, R115). -/

namespace Sys2Proof.Machine

variable {s t u : State} {r : Input} {level : Bool} {k : InputId} {d : Tick}

/-! ### The sample of one input (R104 to R106) -/

theorem Input.same_or_changed (r : Input) (level : Bool) :
    (r.sampled = none ∨ r.sampled = some level) ∨ r.sampled = some (!level) := by
  cases r.sampled with
  | none => exact .inl (.inl rfl)
  | some old => cases old <;> cases level <;> decide

theorem Input.not_same_of_changed (h : r.sampled = some (!level)) : ¬ (r.sampled = none ∨ r.sampled = some level) := by
  simp [h]

theorem Input.edge_of_same (h : r.sampled = none ∨ r.sampled = some level) : r.edge level = none := by
  obtain h | h := h <;> simp [Input.edge, h]

theorem Input.edge_of_changed (h : r.sampled = some (!level)) :
    r.edge level = some (if level = true then .rise else .fall) := by
  simp [Input.edge, h]

theorem Input.sample_of_same (h : r.sampled = none ∨ r.sampled = some level) :
    r.sample level d = { r with sampled := some level } := by
  simp only [Input.sample, Input.edge_of_same h]

theorem Input.sample_of_changed (h : r.sampled = some (!level)) : r.sample level d =
    { sampled := some level, lastEdge := some (d, if level = true then .rise else .fall),
      edgeCount := r.edgeCount + 1 } := by
  simp only [Input.sample, Input.edge_of_changed h]

theorem Input.sample_eq (r : Input) (level : Bool) (d : Tick) : r.sample level d =
    if r.sampled = none ∨ r.sampled = some level then { r with sampled := some level }
    else { sampled := some level, lastEdge := some (d, if level = true then .rise else .fall),
           edgeCount := r.edgeCount + 1 } := by
  obtain h | h := r.same_or_changed level
  · rw [Input.sample_of_same h, if_pos h]
  · rw [Input.sample_of_changed h, if_neg (Input.not_same_of_changed h)]

/-- The release request that an input sends after its sample at tick d (R107). -/
def Input.request (r : Input) (k : InputId) (level : Bool) (d : Tick) : Option ReleaseRequest :=
  (r.edge level).map fun direction => ⟨k, direction, d⟩

theorem Input.request_eq (r : Input) (k : InputId) (level : Bool) (d : Tick) : r.request k level d =
    if r.sampled = some (!level) then some ⟨k, if level = true then .rise else .fall, d⟩ else none := by
  obtain h | h := r.same_or_changed level
  · rw [Input.request, Input.edge_of_same h, if_neg fun hc => Input.not_same_of_changed hc h, Option.map_none]
  · rw [Input.request, Input.edge_of_changed h, if_pos h, Option.map_some]

/-! ### What the trigger unit changes by itself -/

/-- Work of the trigger unit: its records and places, the release requests and the notices posted change, and nothing
else. -/
structure TriggerWork (s t : State) : Prop where
  frame : ∃ trigger requests ports, t = { s with trigger := trigger, releaseRequests := requests, ports := ports }
  posts : ∀ p, ∃ posts, t.port p = { s.port p with wires := { (s.port p).wires with postsOfTrigger := posts } }

theorem TriggerWork.of_same_ports
    (hframe : ∃ trigger requests, t = { s with trigger := trigger, releaseRequests := requests }) :
    TriggerWork s t := by
  obtain ⟨trigger, requests, rfl⟩ := hframe
  exact ⟨⟨trigger, requests, s.ports, rfl⟩, fun p => ⟨(s.port p).wires.postsOfTrigger, rfl⟩⟩

theorem TriggerWork.refl (s : State) : TriggerWork s s := .of_same_ports ⟨s.trigger, s.releaseRequests, rfl⟩

theorem TriggerWork.trans (h : TriggerWork s t) (h' : TriggerWork t u) : TriggerWork s u := by
  obtain ⟨trigger, requests, ports, ht⟩ := h.frame
  obtain ⟨trigger', requests', ports', hu⟩ := h'.frame
  refine ⟨⟨trigger', requests', ports', by rw [hu, ht]⟩, fun p => ?_⟩
  obtain ⟨posts, hp⟩ := h.posts p
  obtain ⟨posts', hp'⟩ := h'.posts p
  exact ⟨posts', by rw [hp', hp]⟩

theorem TriggerWork.foldl {α : Type} {f : State → α → State} (h : ∀ u a, TriggerWork u (f u a)) (l : List α) (s : State) :
    TriggerWork s (l.foldl f s) := by
  induction l generalizing s with
  | nil => exact .refl s
  | cons a l ih => exact (h s a).trans (ih (f s a))

theorem TriggerWork.endOfTickReports (h : TriggerWork s t) : t.endOfTickReports = s.endOfTickReports := by
  obtain ⟨trigger, requests, ports, ht⟩ := h.frame
  rw [ht]

theorem TriggerWork.postTrigger (s : State) (p : PortId) (n : Notice) : TriggerWork s (s.postTrigger p n) := by
  refine ⟨⟨_, _, _, rfl⟩, fun q => ?_⟩
  by_cases hq : q = p
  · subst hq
    exact ⟨_, State.updPort_port_same s q _⟩
  · exact ⟨_, State.updWires_port_other s _ hq⟩

theorem TriggerWork.notifyPlace (k : InputId) (direction : Direction) (d : Tick) (s : State) (n : Fin 8) :
    TriggerWork s (State.notifyPlace k direction d s n) := by
  obtain h | ⟨sub, -, -, h⟩ := State.notifyPlace_cases k direction d s n
  · rw [h]
    exact .refl s
  · rw [h]
    exact (TriggerWork.of_same_ports ⟨_, _, rfl⟩).trans (.postTrigger _ _ _)

/-! ### The turn of one input (R107) -/

/-- The record of input k is written. -/
def State.withInput (s : State) (k : InputId) (r : Input) : State :=
  { s with trigger := { s.trigger with inputs := s.trigger.inputs.set k r } }

theorem State.inputTick_of_no_edge {levels : BitVec 4} (h : s.trigger.inputs[k].edge (levels.getLsbD k.val) = none) :
    State.inputTick levels d s k = s.withInput k (s.trigger.inputs[k].sample (levels.getLsbD k.val) d) := by
  simp only [State.inputTick, h]
  rfl

/-- At an edge the subscriptions have their turns between the record and the release request. -/
theorem State.inputTick_of_edge {levels : BitVec 4} {direction : Direction}
    (h : s.trigger.inputs[k].edge (levels.getLsbD k.val) = some direction) :
    State.inputTick levels d s k =
      let posted := (List.finRange 8).foldl (State.notifyPlace k direction d)
        (s.withInput k (s.trigger.inputs[k].sample (levels.getLsbD k.val) d))
      { posted with releaseRequests := posted.releaseRequests ++ [⟨k, direction, d⟩] } := by
  simp only [State.inputTick, h]
  rfl

theorem TriggerWork.inputTick (levels : BitVec 4) (d : Tick) (s : State) (k : InputId) :
    TriggerWork s (State.inputTick levels d s k) := by
  have hrecord (r : Input) : TriggerWork s (s.withInput k r) := .of_same_ports ⟨_, _, rfl⟩
  cases h : s.trigger.inputs[k].edge (levels.getLsbD k.val) with
  | none =>
    rw [State.inputTick_of_no_edge h]
    exact hrecord _
  | some direction =>
    rw [State.inputTick_of_edge h]
    exact ((hrecord _).trans (.foldl (.notifyPlace k direction d) _ _)).trans (.of_same_ports ⟨_, _, rfl⟩)

theorem State.notifyPlaces_inputs (k : InputId) (direction : Direction) (d : Tick) (l : List (Fin 8)) (s : State) :
    (l.foldl (State.notifyPlace k direction d) s).trigger.inputs = s.trigger.inputs := by
  refine foldl_keeps _ (fun u => u.trigger.inputs) (fun u n => ?_) l s
  obtain ⟨places, ports, h⟩ := State.notifyPlace_frame k direction d u n
  rw [h]

theorem State.notifyPlaces_releaseRequests (k : InputId) (direction : Direction) (d : Tick) (l : List (Fin 8))
    (s : State) : (l.foldl (State.notifyPlace k direction d) s).releaseRequests = s.releaseRequests := by
  refine foldl_keeps _ (fun u => u.releaseRequests) (fun u n => ?_) l s
  obtain ⟨places, ports, h⟩ := State.notifyPlace_frame k direction d u n
  rw [h]

theorem State.inputTick_inputs (levels : BitVec 4) (d : Tick) (s : State) (k : InputId) :
    (State.inputTick levels d s k).trigger.inputs =
      s.trigger.inputs.set k (s.trigger.inputs[k].sample (levels.getLsbD k.val) d) := by
  cases h : s.trigger.inputs[k].edge (levels.getLsbD k.val) with
  | none => rw [State.inputTick_of_no_edge h, State.withInput]
  | some direction =>
    rw [State.inputTick_of_edge h]
    dsimp only
    rw [State.notifyPlaces_inputs, State.withInput]

theorem State.inputTick_input_same (levels : BitVec 4) (d : Tick) (s : State) (k : InputId) :
    (State.inputTick levels d s k).trigger.inputs[k] = s.trigger.inputs[k].sample (levels.getLsbD k.val) d := by
  simp only [State.inputTick_inputs, Fin.getElem_fin, Vector.getElem_set_self]

theorem State.inputTick_input_other (levels : BitVec 4) (d : Tick) (s : State) {j k : InputId} (h : j ≠ k) :
    (State.inputTick levels d s k).trigger.inputs[j] = s.trigger.inputs[j] := by
  have hval : k.val ≠ j.val := fun e => h (Fin.ext e.symm)
  simp only [State.inputTick_inputs, Fin.getElem_fin, Vector.getElem_set_ne _ _ hval]

theorem State.inputTick_releaseRequests (levels : BitVec 4) (d : Tick) (s : State) (k : InputId) :
    (State.inputTick levels d s k).releaseRequests =
      s.releaseRequests ++ (s.trigger.inputs[k].request k (levels.getLsbD k.val) d).toList := by
  rw [Input.request]
  cases h : s.trigger.inputs[k].edge (levels.getLsbD k.val) with
  | none =>
    rw [State.inputTick_of_no_edge h]
    exact (List.append_nil _).symm
  | some direction =>
    rw [State.inputTick_of_edge h]
    dsimp only
    rw [State.notifyPlaces_releaseRequests, State.withInput, Option.map_some, Option.toList_some]

/-! ### The turns of several inputs -/

/-- The turns of other inputs leave the record of an input. -/
theorem State.inputTicks_input_other {levels : BitVec 4} {l : List InputId} (hk : k ∉ l) (s : State) :
    (l.foldl (State.inputTick levels d) s).trigger.inputs[k] = s.trigger.inputs[k] := by
  induction l generalizing s with
  | nil => rfl
  | cons j l ih =>
    obtain ⟨hj, hl⟩ : k ≠ j ∧ k ∉ l := by simpa using hk
    rw [List.foldl_cons, ih hl, State.inputTick_input_other _ _ _ hj]

/-- An input that has one turn takes the sample on the record that it had before all the turns. -/
theorem State.inputTicks_input {levels : BitVec 4} {l : List InputId} (hnodup : l.Nodup) (hk : k ∈ l) (s : State) :
    (l.foldl (State.inputTick levels d) s).trigger.inputs[k] =
      s.trigger.inputs[k].sample (levels.getLsbD k.val) d := by
  induction l generalizing s with
  | nil => cases hk
  | cons j l ih =>
    obtain ⟨hj, hl⟩ := List.nodup_cons.1 hnodup
    rw [List.foldl_cons]
    by_cases hkj : k = j
    · subst hkj
      rw [State.inputTicks_input_other hj, State.inputTick_input_same]
    · rw [ih hl (List.mem_of_ne_of_mem hkj hk), State.inputTick_input_other _ _ _ hkj]

/-- The release requests go out in the order of the turns, each by the record before all the turns. -/
theorem State.inputTicks_releaseRequests {levels : BitVec 4} {l : List InputId} (hnodup : l.Nodup) (s : State) :
    (l.foldl (State.inputTick levels d) s).releaseRequests = s.releaseRequests ++
      l.filterMap fun k => s.trigger.inputs[k].request k (levels.getLsbD k.val) d := by
  induction l generalizing s with
  | nil => exact (List.append_nil _).symm
  | cons j l ih =>
    obtain ⟨hj, hl⟩ := List.nodup_cons.1 hnodup
    have hothers : (l.filterMap fun k => (State.inputTick levels d s j).trigger.inputs[k].request k
        (levels.getLsbD k.val) d) = l.filterMap fun k => s.trigger.inputs[k].request k (levels.getLsbD k.val) d :=
      List.filterMap_congr fun k hk => by
        rw [State.inputTick_input_other _ _ _ (ne_of_mem_of_not_mem hk hj)]
    rw [List.foldl_cons, ih hl, hothers, State.inputTick_releaseRequests, List.append_assoc]
    rw [List.filterMap_cons]
    cases s.trigger.inputs[j].request j (levels.getLsbD j.val) d with
    | none => rw [Option.toList_none, List.nil_append]
    | some request => rw [Option.toList_some, List.singleton_append]

/-! ### TRIGGER_UNIT_TICK -/

/-- The end-of-tick report goes behind those sent before the tick: no turn sends one (R115). -/
theorem exec_triggerUnitTick_of_tick {levels : BitVec 4} {rest : List (Tick × BitVec 4)}
    (h : s.ticksToTrigger = (d, levels) :: rest) : exec .triggerUnitTick s = .next
      { (List.finRange 4).foldl (State.inputTick levels d) { s with ticksToTrigger := rest } with
        endOfTickReports := s.endOfTickReports ++ [d] } := by
  have hwork := TriggerWork.foldl (.inputTick levels d) (List.finRange 4) { s with ticksToTrigger := rest }
  show execTriggerUnitTick s = _
  rw [execTriggerUnitTick, h]
  dsimp only
  rw [State.takeTriggerTick, hwork.endOfTickReports]

/-- Settles O29, by the turns of T0 to T3 and by the two outcomes of a sample. -/
theorem triggerUnitSamplesTheInputs : Obligations.TriggerUnitSamplesTheInputs := by
  refine ⟨fun d levels rest s h => ?_, fun d levels k s => ⟨fun hsame => ?_, fun hchanged => ?_⟩⟩
  · have hnext := exec_triggerUnitTick_of_tick h
    have hwork := TriggerWork.foldl (.inputTick levels d) (List.finRange 4) { s with ticksToTrigger := rest }
    have hinputs (k : InputId) := State.inputTicks_input (levels := levels) (d := d) (List.nodup_finRange 4)
      (List.mem_finRange k) { s with ticksToTrigger := rest }
    have hrequests := State.inputTicks_releaseRequests (levels := levels) (d := d) (List.nodup_finRange 4)
      { s with ticksToTrigger := rest }
    dsimp only
    generalize (List.finRange 4).foldl (State.inputTick levels d) { s with ticksToTrigger := rest } = turns at *
    simp only [Input.request_eq] at hrequests
    obtain ⟨trigger, requests, ports, hframe⟩ := hwork.frame
    exact ⟨_, hnext, rfl, fun k => (hinputs k).trans (Input.sample_eq _ _ d), hrequests, hwork.posts, by rw [hframe]⟩
  · rw [State.inputTick_of_no_edge (Input.edge_of_same hsame), Input.sample_of_same hsame]
    rfl
  · rw [State.inputTick_of_edge (Input.edge_of_changed hchanged), Input.sample_of_changed hchanged]
    rfl

end Sys2Proof.Machine
end

section
/-! SUPPORT. What a step leaves of the notice queues: only their own events and the assertion of RESET change one. -/

namespace Sys2Proof

/-- The steps that can change a notice queue. -/
def Instr.writesQueues : Instr → Bool
  | .fetch _ | .post _ _ | .acknowledgement _ | .returnRequest _ | .departureReport _ | .attachmentReport _ | .flush _
  | .resetAssertion => true
  | _ => false

namespace Machine

variable {s t u : State} {p : PortId}

/-! ### Changes that leave the queues -/

/-- Every notice queue stays as it was. -/
def QueuesStay (s t : State) : Prop := ∀ q, (t.port q).queue = (s.port q).queue

theorem QueuesStay.of_ports (h : t.ports = s.ports) : QueuesStay s t := fun q => by
  rw [State.port, State.port, h]

theorem QueuesStay.refl (s : State) : QueuesStay s s := .of_ports rfl

theorem QueuesStay.trans (h : QueuesStay s t) (h' : QueuesStay t u) : QueuesStay s u := fun q => (h' q).trans (h q)

/-- A change of one port that leaves its queue. The changes of a link, of a session record and of the messages under way
are such. -/
theorem QueuesStay.updPort (p : PortId) (s : State) {f : Port → Port} (h : (f (s.port p)).queue = (s.port p).queue) :
    QueuesStay s (s.updPort p f) := fun q => by
  by_cases hq : q = p
  · rw [hq, State.updPort_port_same, h]
  · rw [State.updPort_port_other _ _ hq]

theorem QueuesStay.updLink (p : PortId) (s : State) (f : Link → Link) : QueuesStay s (s.updLink p f) := .updPort p s rfl

theorem QueuesStay.updSession (p : PortId) (s : State) (f : Session → Session) : QueuesStay s (s.updSession p f) :=
  .updPort p s rfl

theorem QueuesStay.updWires (p : PortId) (s : State) (f : Wires → Wires) : QueuesStay s (s.updWires p f) :=
  .updPort p s rfl

theorem QueuesStay.reply (p : PortId) (s : State) (st : Status) (r : Result) : QueuesStay s (s.reply p st r) :=
  .updWires p s _

/-- A block completes a request, after a change that leaves the ports. -/
theorem QueuesStay.finish (p : PortId) {s s' : State} (h : s'.ports = s.ports) (st : Status) (r : Result) :
    QueuesStay s (s'.finish p st r) := .trans (.of_ports h) (.updWires p s' _)

/-- The lists of messages between the blocks of the core. -/
theorem QueuesStay.setMessages (s : State) (rr : List ReleaseRequest) (er : List Tick) (sl : List LineReply) :
    QueuesStay s { s with releaseRequests := rr, endOfTickReports := er, scheduleToLines := sl } := .of_ports rfl

theorem QueuesStay.foldl {α : Type} {f : State → α → State} (h : ∀ u a, QueuesStay u (f u a)) (l : List α) (s : State) :
    QueuesStay s (l.foldl f s) := by
  induction l generalizing s with
  | nil => exact .refl s
  | cons a l ih => exact (h s a).trans (ih (f s a))

/-! ### Events of the port link controllers -/

@[simp] theorem Port.abandon_queue (pt : Port) : pt.abandon.queue = pt.queue := by
  unfold Port.abandon
  split <;> rfl

@[simp] theorem Port.closeResponse_queue (pt : Port) (edges : Nat) : (pt.closeResponse edges).queue = pt.queue := by
  unfold Port.closeResponse
  split
  · split <;> rfl
  · rfl

@[simp] theorem Port.loseLink_queue (pt : Port) (edges : Nat) : (pt.loseLink edges).queue = pt.queue :=
  pt.closeResponse_queue edges

@[simp] theorem Port.discardFrame_queue (pt : Port) (discard : Bool) : (pt.discardFrame discard).queue = pt.queue := by
  cases discard <;> rfl

@[simp] theorem Port.closeCommand_queue (pt : Port) (j : Judgement) : (pt.closeCommand j).queue = pt.queue := by
  unfold Port.closeCommand
  split
  · rfl
  · split
    · rfl
    · exact pt.discardFrame_queue _
    · exact pt.abandon_queue
    · rfl
  · split
    · rfl
    · exact pt.discardFrame_queue _
    · exact pt.abandon_queue
    · rfl

@[simp] theorem Port.hand_queue (pt : Port) (r : Request) (c : Command) : (pt.hand r c).queue = pt.queue := by
  unfold Port.hand
  dsimp only
  split <;> rfl

@[simp] theorem Port.takeAnswer_queue (pt : Port) (attached : Bool) : (pt.takeAnswer attached).queue = pt.queue := by
  unfold Port.takeAnswer
  split
  · split
    · rfl
    · split
      · rfl
      · split
        · rfl
        · exact pt.hand_queue _ _
  · rfl

@[simp] theorem Port.takeCompletion_queue (pt : Port) (c : Completion) : (pt.takeCompletion c).queue = pt.queue := by
  unfold Port.takeCompletion
  dsimp only
  split
  · split
    · split <;> rfl
    · rfl
  · rfl

@[simp] theorem Port.withdraw_queue (pt : Port) (w : Withdrawal) : (pt.withdraw w).queue = pt.queue := by
  unfold Port.withdraw
  dsimp only
  split
  · split <;> rfl
  · rfl

@[simp] theorem Port.takeWithdrawn_queue (pt : Port) : pt.takeWithdrawn.queue = pt.queue := by
  unfold Port.takeWithdrawn
  split <;> rfl

@[simp] theorem Port.takeFetchWithdrawn_queue (pt : Port) : pt.takeFetchWithdrawn.queue = pt.queue := by
  unfold Port.takeFetchWithdrawn
  split <;> rfl

@[simp] theorem Port.takeMessage_queue (pt : Port) (m : ToLink) : (pt.takeMessage m).queue = pt.queue := by
  cases m with
  | completion c => exact pt.takeCompletion_queue c
  | withdrawn => exact pt.takeWithdrawn_queue
  | taken live => rfl
  | fetchWithdrawn => exact pt.takeFetchWithdrawn_queue

@[simp] theorem Port.departHanded_queue (pt : Port) (r : Request) (block : Block) (discard : Bool) :
    (pt.departHanded r block discard).queue = pt.queue := by
  unfold Port.departHanded
  dsimp only
  split
  · rfl
  · split
    · rfl
    · split <;> rfl

@[simp] theorem Port.takeDeparture_queue (pt : Port) (toDetached : Bool) :
    (pt.takeDeparture toDetached).queue = pt.queue := by
  unfold Port.takeDeparture
  split
  · rfl
  · split
    · rfl
    · exact pt.departHanded_queue _ _ _
  · rfl
  · rfl

theorem execLinkpFall_queues (p : LinkFall) (s : State) : Yields (execLinkpFall p s) (QueuesStay s) := by
  have hfall : QueuesStay s (s.updPort p.port fun pt => pt.loseLink p.edges) := .updPort _ s (by simp)
  unfold execLinkpFall
  split
  · exact .next (.refl s)
  · split
    · exact .next hfall
    · exact .next (hfall.trans (.updWires _ _ _))

theorem execLinkpRise_queues (p : PortId) (s : State) : Yields (execLinkpRise p s) (QueuesStay s) := by
  unfold execLinkpRise
  split
  · exact .next (.refl s)
  · split
    · exact .next (.updLink p s _)
    · exact .next ((QueuesStay.updLink p s _).trans (.updWires p _ _))

theorem execWindowOpen_queues (p : PortId) (s : State) : Yields (execWindowOpen p s) (QueuesStay s) := by
  unfold execWindowOpen
  split
  · exact .next (.refl s)
  · split <;> exact .next (.updLink p s _)

theorem execOpener_queues (p : PortId) (bits : Vector Bool 8) (s : State) :
    Yields (execOpener p bits s) (QueuesStay s) := by
  unfold execOpener
  dsimp only
  split
  · split
    · exact .next (.updLink p s _)
    · split <;> exact .next (.updLink p s _)
  · exact .next (.refl s)

theorem execCommandWindowClose_queues (p : PortId) (bits stray : List Bool) (s : State) :
    Yields (execCommandWindowClose p bits stray s) (QueuesStay s) := by
  unfold execCommandWindowClose
  split
  · exact .next (.refl s)
  · split
    · exact .next ((QueuesStay.updLink p s _).trans (.updPort p _ (by simp)))
    · exact .next (.refl s)
    · exact .next (.updLink p s _)

theorem execResponseWindowClose_queues (p : PortId) (edges : Nat) (s : State) :
    Yields (execResponseWindowClose p edges s) (QueuesStay s) := by
  unfold execResponseWindowClose
  split
  · exact .next (.refl s)
  · split
    · exact .next ((QueuesStay.updLink p s _).trans (.updPort p _ (by simp)))
    · exact .next (.refl s)
    · exact .next (.updLink p s _)

theorem execAcceptanceAnswer_queues (p : PortId) (s : State) : Yields (execAcceptanceAnswer p s) (QueuesStay s) := by
  unfold execAcceptanceAnswer
  split
  · exact .next ((QueuesStay.updWires p s _).trans (.updPort p _ (by simp)))
  · exact .next (.refl s)

theorem execCompletion_queues (p : PortId) (s : State) : Yields (execCompletion p s) (QueuesStay s) := by
  unfold execCompletion
  split
  · exact .next (.updPort p s (by simp))
  · exact .next (.refl s)

theorem execWithdrawalReply_queues (p : PortId) (s : State) : Yields (execWithdrawalReply p s) (QueuesStay s) := by
  unfold execWithdrawalReply
  split
  · exact .next (.updPort p s (by simp))
  · exact .next (.refl s)

theorem execWithdrawalRequest_queues (p : PortId) (block : Block) (s : State) :
    Yields (execWithdrawalRequest p block s) (QueuesStay s) := by
  unfold execWithdrawalRequest
  split
  · split
    · exact .next (.refl s)
    · exact .next ((QueuesStay.updWires p s _).trans (.updPort p _ (by simp)))
  · exact .next (.refl s)

theorem execDepartureInstruction_queues (p : PortId) (s : State) :
    Yields (execDepartureInstruction p s) (QueuesStay s) := by
  unfold execDepartureInstruction
  split
  · exact .next ((QueuesStay.updWires p s _).trans (.updPort p _ (by simp)))
  · exact .next (.refl s)

/-! ### Events of the session controllers -/

theorem State.endStatus_queues (s : State) (p : PortId) (record : StatusRecord) : QueuesStay s (s.endStatus p record) := by
  unfold State.endStatus
  dsimp only
  refine QueuesStay.trans (.trans ?_ (.updSession p _ _)) (.reply p _ _ _)
  split
  · exact (QueuesStay.updSession p s _).trans (.updWires p _ _)
  · exact .refl s

theorem State.takeQuestion_queues (s : State) (p : PortId) (question : StatusQuestion) :
    QueuesStay s (s.takeQuestion p question) := by
  unfold State.takeQuestion
  dsimp only
  split
  · exact .refl s
  · split
    · exact s.endStatus_queues p _
    · exact .updSession p s _

theorem execStatus_queues (p : Ask) (s : State) : Yields (execStatus p s) (QueuesStay s) := by
  unfold execStatus
  split
  · split
    · exact .next (.refl s)
    · split
      · exact .next (s.takeQuestion_queues _ _)
      · exact .next (.updSession _ s _)
  · exact .next (.refl s)

theorem State.takeHeld_queues (s : State) (p : PortId) : QueuesStay s (s.takeHeld p) := by
  unfold State.takeHeld
  split
  · split
    · exact .updSession p s _
    · exact .refl s
  · exact .refl s

theorem execHeartbeat_queues (p : PortId) (s : State) : Yields (execHeartbeat p s) (QueuesStay s) := by
  unfold execHeartbeat State.takeHeartbeat
  dsimp only
  split
  · split
    · split <;> exact .next ((QueuesStay.updSession p s _).trans (.reply p _ _ _))
    · exact .next (.refl s)
  · exact .next (.refl s)

theorem execParting_queues (p : PortId) (s : State) : Yields (execParting p s) (QueuesStay s) := by
  unfold execParting
  split
  · exact .next ((QueuesStay.updSession p s _).trans (.updWires p _ _))
  · exact .next (.refl s)

theorem execPartingStepReply_queues (p : PortId) (s : State) : Yields (execPartingStepReply p s) (QueuesStay s) := by
  unfold execPartingStepReply
  split
  · split
    · exact .next (.refl s)
    · exact .next ((QueuesStay.updSession p s _).trans (.updWires p _ _))
  · exact .next (.refl s)

theorem execFlushReply_queues (p : PortId) (s : State) : Yields (execFlushReply p s) (QueuesStay s) := by
  unfold execFlushReply State.endParting
  split
  · split
    · exact .next ((((QueuesStay.updSession p s _).trans (.updWires p _ _)).trans (.reply p _ _ _)).trans
        (State.takeHeld_queues _ p))
    · exact .next (.refl s)
  · exact .next (.refl s)

theorem execReportOfLinkpRising_queues (p : PortId) (s : State) :
    Yields (execReportOfLinkpRising p s) (QueuesStay s) := by
  unfold execReportOfLinkpRising
  split
  · split
    · exact .next (.refl s)
    · exact .next ((QueuesStay.updWires p s _).trans (.updSession p _ _))
  · exact .next (.refl s)

theorem execReportOfLinkpFalling_queues (p : PortId) (s : State) :
    Yields (execReportOfLinkpFalling p s) (QueuesStay s) := by
  unfold execReportOfLinkpFalling State.takeFall
  split
  · dsimp only
    split
    · exact .next (.refl s)
    · split
      · exact .next (.updWires p s _)
      · exact .next (((QueuesStay.updWires p s _).trans (.updSession p _ _)).trans (.updWires p _ _))
  · exact .next (.refl s)

theorem State.takeLapse_queues (s : State) (p : PortId) : QueuesStay s (s.takeLapse p) :=
  (QueuesStay.updSession p s _).trans (.updWires p _ _)

theorem State.sessionTick_queues (s : State) (p : PortId) : QueuesStay s (s.sessionTick p) := by
  unfold State.sessionTick
  split
  · exact .refl s
  · split
    · exact s.takeLapse_queues p
    · exact .updSession p s _

theorem execSessionControllerTick_queues (p : PortId) (s : State) :
    Yields (execSessionControllerTick p s) (QueuesStay s) := by
  unfold execSessionControllerTick
  split
  · split
    · exact .next (.refl s)
    · exact .next ((QueuesStay.updWires p s _).trans (State.sessionTick_queues _ p))
  · exact .next (.refl s)

theorem execLapse_queues (p : PortId) (s : State) : Yields (execLapse p s) (QueuesStay s) := by
  unfold execLapse
  split
  · exact .next ((QueuesStay.updWires p s _).trans (State.takeLapse_queues _ p))
  · exact .next (.refl s)

theorem execAcceptanceReport_queues (p : PortId) (s : State) : Yields (execAcceptanceReport p s) (QueuesStay s) := by
  unfold execAcceptanceReport
  split
  · dsimp only
    split
    · exact .next (.refl s)
    · exact .next ((QueuesStay.updSession p s _).trans (.updWires p _ _))
  · exact .next (.refl s)

theorem State.takeSettlement_queues (s : State) (p : PortId) : QueuesStay s (s.takeSettlement p) := by
  unfold State.takeSettlement
  split
  · exact .refl s
  · exact (QueuesStay.updSession p s _).trans (.updWires p _ _)
  · exact (QueuesStay.updSession p s _).trans (State.takeHeld_queues _ p)

theorem execSettlementReport_queues (p : PortId) (s : State) : Yields (execSettlementReport p s) (QueuesStay s) := by
  unfold execSettlementReport
  split
  · split
    · exact .next (.refl s)
    · exact .next ((QueuesStay.updWires p s _).trans (State.takeSettlement_queues _ p))
  · exact .next (.refl s)

theorem execOrphanCompletionReply_queues (p : PortId) (s : State) :
    Yields (execOrphanCompletionReply p s) (QueuesStay s) := by
  unfold execOrphanCompletionReply
  split
  · exact .next (((QueuesStay.updWires p s _).trans (.updSession p _ _)).trans (State.takeHeld_queues _ p))
  · exact .next (.refl s)

/-! ### Time and RESET -/

theorem State.makeTick_queues (s : State) (levels : BitVec 4) : QueuesStay s (s.makeTick levels) := by
  unfold State.makeTick
  split
  · exact fun q => by rw [State.deliverTick_port]
  · exact .refl s

theorem execTick_queues (levels : BitVec 4) (s : State) : Yields (execTick levels s) (QueuesStay s) := by
  unfold execTick
  split
  · exact .next (.refl s)
  · exact .next (s.makeTick_queues levels)

theorem execRefclkPeriod_queues (levels : BitVec 4) (s : State) : Yields (execRefclkPeriod levels s) (QueuesStay s) := by
  unfold execRefclkPeriod State.refclk
  split
  · exact .next (.refl s)
  · split
    · exact .next (s.makeTick_queues levels)
    · exact .next (.of_ports rfl)

theorem execResetRelease_queues (s : State) : Yields (execResetRelease s) (QueuesStay s) := by
  unfold execResetRelease
  split
  · exact .next fun q => by rw [State.releaseReset_port]
  · exact .next (.refl s)

theorem execTime_queues (p : PortId) (s : State) : Yields (execTime p s) (QueuesStay s) := by
  unfold execTime
  split
  · exact .next (.finish p rfl _ _)
  · exact .next (.refl s)

theorem execPrescale_queues (p : PortId) (s : State) : Yields (execPrescale p s) (QueuesStay s) := by
  unfold execPrescale State.takePrescale
  split
  · split
    · exact .next (.finish p rfl _ _)
    · split <;> exact .next (.finish p rfl _ _)
  · exact .next (.refl s)

/-! ### The line table -/

theorem execClaim_queues (p : PortId) (s : State) : Yields (execClaim p s) (QueuesStay s) := by
  unfold execClaim State.takeClaim
  split
  · split
    · exact .next (.finish p rfl _ _)
    · split
      · exact .next (.finish p rfl _ _)
      · split <;> exact .next (.finish p rfl _ _)
  · exact .next (.refl s)

theorem execRelease_queues (p : PortId) (s : State) : Yields (execRelease p s) (QueuesStay s) := by
  unfold execRelease State.takeRelease
  split
  · split
    · exact .next (.finish p rfl _ _)
    · split
      · exact .next (.finish p rfl _ _)
      · exact .next (.trans (.of_ports rfl) (.updPort p _ rfl))
  · exact .next (.refl s)

theorem execDrive_queues (p : PortId) (s : State) : Yields (execDrive p s) (QueuesStay s) := by
  unfold execDrive State.takeDrive
  split
  · split
    · exact .next (.finish p rfl _ _)
    · split <;> exact .next (.finish p rfl _ _)
  · exact .next (.refl s)

theorem execLines_queues (p : PortId) (s : State) : Yields (execLines p s) (QueuesStay s) := by
  unfold execLines
  split
  · exact .next (.finish p rfl _ _)
  · exact .next (.refl s)

theorem execReleaseCompletion_queues (p : PortId) (s : State) : Yields (execReleaseCompletion p s) (QueuesStay s) := by
  unfold execReleaseCompletion State.completeRelease
  split
  · split
    · exact .next (.trans (.of_ports rfl) (.updPort p _ rfl))
    · exact .next (.refl s)
  · exact .next (.refl s)

theorem execOrphanStart_queues (p : PortId) (s : State) : Yields (execOrphanStart p s) (QueuesStay s) := by
  unfold execOrphanStart
  split
  · exact .next ((QueuesStay.updWires p s _).trans (.updPort p _ rfl))
  · exact .next (.refl s)

theorem execOrphanCompletion_queues (p : PortId) (s : State) : Yields (execOrphanCompletion p s) (QueuesStay s) := by
  unfold execOrphanCompletion State.completeOrphan
  split
  · split
    · exact .next (.trans (.of_ports rfl) (.updPort p _ rfl))
    · exact .next (.refl s)
  · exact .next (.refl s)

theorem execLineStep_queues (p : PortId) (s : State) : Yields (execLineStep p s) (QueuesStay s) := by
  unfold execLineStep
  split
  · exact .next (.trans (.of_ports rfl) (.updWires p _ _))
  · exact .next (.refl s)

/-! ### The pattern store -/

theorem execAlloc_queues (p : PortId) (s : State) : Yields (execAlloc p s) (QueuesStay s) := by
  unfold execAlloc State.takeAlloc
  dsimp only
  split
  · split
    · exact .next (.finish p rfl _ _)
    · split
      · exact .next (.finish p rfl _ _)
      · split <;> exact .next (.finish p rfl _ _)
  · exact .next (.refl s)

theorem execFree_queues (p : PortId) (s : State) : Yields (execFree p s) (QueuesStay s) := by
  unfold execFree State.takeFree
  split
  · split
    · exact .next (.finish p rfl _ _)
    · split
      · exact .next (.finish p rfl _ _)
      · split <;> exact .next (.finish p rfl _ _)
  · exact .next (.refl s)

theorem execLoad_queues (p : PortId) (s : State) : Yields (execLoad p s) (QueuesStay s) := by
  unfold execLoad State.takeLoad
  dsimp only
  split
  · split
    · exact .next (.finish p rfl _ _)
    · split
      · exact .next (.finish p rfl _ _)
      · split <;> exact .next (.finish p rfl _ _)
  · exact .next (.refl s)

theorem execSegments_queues (p : PortId) (s : State) : Yields (execSegments p s) (QueuesStay s) := by
  unfold execSegments
  split
  · exact .next (.finish p rfl _ _)
  · exact .next (.refl s)

theorem execFreeStep_queues (p : PortId) (s : State) : Yields (execFreeStep p s) (QueuesStay s) := by
  unfold execFreeStep
  split
  · exact .next (.trans (.of_ports rfl) (.updWires p _ _))
  · exact .next (.refl s)

/-! ### The schedule unit -/

/-- The schedule unit posts notices, after a change that leaves the ports. -/
theorem QueuesStay.postSchedule (p : PortId) {s s' : State} (h : s'.ports = s.ports) (ns : List Notice) :
    QueuesStay s (s'.postSchedule p ns) := .trans (.of_ports h) (.updWires p s' _)

theorem State.fire_queues (s : State) (i : SlotId) (e : Entry) (late : Bool) : QueuesStay s (s.fire i e late) := by
  unfold State.fire
  dsimp only
  split
  · exact .postSchedule _ (by simp) _
  · split <;> exact .postSchedule _ (by simp) _

theorem execExpiry_queues (i : SlotId) (s : State) : Yields (execExpiry i s) (QueuesStay s) := by
  unfold execExpiry
  split
  · split
    · exact .next (s.fire_queues i _ _)
    · exact .next (.refl s)
  · exact .next (.refl s)

theorem State.createTimed_queues (s : State) (p : PortId) (i : SlotId) (pl : Plan) (due : Tick) (lp : Option LatePolicy) :
    QueuesStay s (s.createTimed p i pl due lp) := by
  unfold State.createTimed
  split <;> exact .finish p rfl _ _

theorem State.createFireNow_queues (s : State) (p : PortId) (i : SlotId) (pl : Plan) :
    QueuesStay s (s.createFireNow p i pl) := by
  unfold State.createFireNow
  dsimp only
  split
  · exact (s.fire_queues i _ _).trans (.finish p rfl _ _)
  · split
    · exact .finish p rfl _ _
    · exact (s.fire_queues i _ _).trans (.finish p rfl _ _)

theorem State.create_queues (s : State) (p : PortId) (i : SlotId) (pl : Plan) : QueuesStay s (s.create p i pl) := by
  unfold State.create State.createWaiting
  split
  · split <;> exact .finish p rfl _ _
  · exact s.createTimed_queues p i pl _ _
  · split
    · exact s.createTimed_queues p i pl _ _
    · split
      · exact .finish p rfl _ _
      · exact s.createFireNow_queues p i pl

theorem execSchedule_queues (p : PortId) (s : State) : Yields (execSchedule p s) (QueuesStay s) := by
  unfold execSchedule
  split
  · next a _ =>
    obtain ⟨status, hrefused⟩ | hwaits | ⟨pl, i, -, -, -, -, hcreated⟩ := s.takeSchedule_cases p a
    · exact .next (hrefused ▸ .finish p rfl _ _)
    · exact .next (by rw [hwaits]; exact .refl s)
    · exact .next (hcreated ▸ s.create_queues p i pl)
  · exact .next (.refl s)

theorem execCancel_queues (p : PortId) (s : State) : Yields (execCancel p s) (QueuesStay s) := by
  unfold execCancel State.takeCancel
  split
  · split <;> exact .next (.finish p rfl _ _)
  · exact .next (.refl s)

theorem execQuery_queues (p : PortId) (s : State) : Yields (execQuery p s) (QueuesStay s) := by
  unfold execQuery State.takeQuery
  split
  · split <;> exact .next (.finish p rfl _ _)
  · exact .next (.refl s)

theorem execList_queues (p : PortId) (s : State) : Yields (execList p s) (QueuesStay s) := by
  unfold execList State.takeList
  split
  · split <;> exact .next (.finish p rfl _ _)
  · exact .next (.refl s)

theorem execScheduleUnitTick_queues (s : State) : Yields (execScheduleUnitTick s) (QueuesStay s) := by
  unfold execScheduleUnitTick
  split
  · split <;> exact .next (.of_ports rfl)
  · exact .next (.refl s)

theorem execEndOfTickReport_queues (s : State) : Yields (execEndOfTickReport s) (QueuesStay s) := by
  unfold execEndOfTickReport
  split
  · split <;> exact .next (.of_ports rfl)
  · exact .next (.refl s)

theorem State.releaseSlot_queues (r : ReleaseRequest) (s : State) (i : SlotId) :
    QueuesStay s (State.releaseSlot r s i) := by
  unfold State.releaseSlot
  dsimp only
  split
  · exact .refl s
  · split
    · exact .refl s
    · split
      · exact .postSchedule _ rfl _
      · exact .of_ports rfl

theorem execReleaseRequest_queues (input : InputId) (s : State) :
    Yields (execReleaseRequest input s) (QueuesStay s) := by
  unfold execReleaseRequest
  split
  · next r _ =>
    exact .next ((QueuesStay.setMessages s _ s.endOfTickReports s.scheduleToLines).trans
      (.foldl (State.releaseSlot_queues r) _ _))
  · exact .next (.refl s)

theorem State.cancelEntries_queues (s : State) (p : PortId) (f : Entry → Bool) (cause : Option CancelCause) :
    QueuesStay s (s.cancelEntries p f cause) := by
  unfold State.cancelEntries
  dsimp only
  split
  · exact .of_ports rfl
  · exact .postSchedule p rfl _

theorem execReleaseCancellationRequest_queues (p : PortId) (s : State) :
    Yields (execReleaseCancellationRequest p s) (QueuesStay s) := by
  unfold execReleaseCancellationRequest
  split
  · exact .next (((s.cancelEntries_queues p _ _).trans (.updWires p _ _)).trans (.setMessages _ _ _ _))
  · exact .next (.refl s)

theorem execOrphanRequest_queues (p : PortId) (s : State) : Yields (execOrphanRequest p s) (QueuesStay s) := by
  unfold execOrphanRequest
  split
  · exact .next (((s.cancelEntries_queues p _ _).trans (.updWires p _ _)).trans (.setMessages _ _ _ _))
  · exact .next (.refl s)

theorem execPartingRequest_queues (p : PortId) (s : State) : Yields (execPartingRequest p s) (QueuesStay s) := by
  unfold execPartingRequest
  split
  · exact .next ((s.cancelEntries_queues p _ _).trans (.updWires p _ _))
  · exact .next (.refl s)

/-! ### The trigger unit -/

theorem QueuesStay.setTrigger (s : State) (u : TriggerUnit) : QueuesStay s { s with trigger := u } := .of_ports rfl

theorem State.notifyPlace_queues (input : InputId) (d : Direction) (t : Tick) (s : State) (k : Fin 8) :
    QueuesStay s (State.notifyPlace input d t s k) := by
  unfold State.notifyPlace
  split
  · exact .refl s
  · split
    · exact .trans (.setTrigger s _) (.updWires _ _ _)
    · exact .refl s

theorem State.inputTick_queues (levels : BitVec 4) (t : Tick) (s : State) (k : InputId) :
    QueuesStay s (State.inputTick levels t s k) := by
  unfold State.inputTick
  dsimp only
  split
  · exact .setTrigger s _
  · exact .trans (.trans (.setTrigger s _) (.foldl (State.notifyPlace_queues k _ t) _ _)) (.setMessages _ _ _ _)

theorem execTriggerUnitTick_queues (s : State) : Yields (execTriggerUnitTick s) (QueuesStay s) := by
  unfold execTriggerUnitTick
  split
  · next d levels rest _ =>
    have hpop : QueuesStay s { s with ticksToTrigger := rest } := .of_ports rfl
    exact .next ((hpop.trans (.foldl (State.inputTick_queues levels d) _ _)).trans (.setMessages _ _ _ _))
  · exact .next (.refl s)

theorem execSubscribe_queues (p : PortId) (s : State) : Yields (execSubscribe p s) (QueuesStay s) := by
  unfold execSubscribe State.takeSubscribe
  split
  · split
    · split
      · exact .next (.finish p rfl _ _)
      · split <;> exact .next (.finish p rfl _ _)
    · exact .next (.finish p rfl _ _)
  · exact .next (.refl s)

theorem execUnsubscribe_queues (p : PortId) (s : State) : Yields (execUnsubscribe p s) (QueuesStay s) := by
  unfold execUnsubscribe State.takeUnsubscribe
  split
  · split
    · exact .next (.finish p rfl _ _)
    · split
      · exact .next (.finish p rfl _ _)
      · split <;> exact .next (.finish p rfl _ _)
  · exact .next (.refl s)

theorem execInputs_queues (p : PortId) (s : State) : Yields (execInputs p s) (QueuesStay s) := by
  unfold execInputs
  split
  · exact .next (.finish p rfl _ _)
  · exact .next (.refl s)

theorem execSubscriptionStep_queues (p : PortId) (s : State) : Yields (execSubscriptionStep p s) (QueuesStay s) := by
  unfold execSubscriptionStep
  split
  · exact .next (.trans (.of_ports rfl) (.updWires p _ _))
  · exact .next (.refl s)

/-! ### Every step -/

theorem exec_queuesStay {c : Instr} (hc : c.writesQueues = false) (he : exec c s = .next t) : QueuesStay s t := by
  suffices Yields (exec c s) (QueuesStay s) from this.of_next he
  cases c with
  | status p => exact execStatus_queues p s
  | heartbeat p => exact execHeartbeat_queues p s
  | parting p => exact execParting_queues p s
  | time p => exact execTime_queues p s
  | prescale p => exact execPrescale_queues p s
  | claim p => exact execClaim_queues p s
  | release p => exact execRelease_queues p s
  | drive p => exact execDrive_queues p s
  | lines p => exact execLines_queues p s
  | schedule p => exact execSchedule_queues p s
  | cancel p => exact execCancel_queues p s
  | query p => exact execQuery_queues p s
  | list p => exact execList_queues p s
  | alloc p => exact execAlloc_queues p s
  | free p => exact execFree_queues p s
  | load p => exact execLoad_queues p s
  | segments p => exact execSegments_queues p s
  | subscribe p => exact execSubscribe_queues p s
  | unsubscribe p => exact execUnsubscribe_queues p s
  | inputs p => exact execInputs_queues p s
  | resetRelease => exact execResetRelease_queues s
  | tick levels => exact execTick_queues levels s
  | scheduleUnitTick => exact execScheduleUnitTick_queues s
  | expiry i => exact execExpiry_queues i s
  | triggerUnitTick => exact execTriggerUnitTick_queues s
  | releaseRequest input => exact execReleaseRequest_queues input s
  | endOfTickReport => exact execEndOfTickReport_queues s
  | sessionControllerTick p => exact execSessionControllerTick_queues p s
  | lapse p => exact execLapse_queues p s
  | linkpFall p => exact execLinkpFall_queues p s
  | linkpRise p => exact execLinkpRise_queues p s
  | reportOfLinkpRising p => exact execReportOfLinkpRising_queues p s
  | reportOfLinkpFalling p => exact execReportOfLinkpFalling_queues p s
  | windowOpen p => exact execWindowOpen_queues p s
  | opener p bits => exact execOpener_queues p bits s
  | commandWindowClose p bits stray => exact execCommandWindowClose_queues p bits stray s
  | responseWindowClose p edges => exact execResponseWindowClose_queues p edges s
  | acceptanceReport p => exact execAcceptanceReport_queues p s
  | acceptanceAnswer p => exact execAcceptanceAnswer_queues p s
  | completion p => exact execCompletion_queues p s
  | withdrawalRequest p block => exact execWithdrawalRequest_queues p block s
  | withdrawalReply p => exact execWithdrawalReply_queues p s
  | departureInstruction p => exact execDepartureInstruction_queues p s
  | settlementReport p => exact execSettlementReport_queues p s
  | releaseCancellationRequest p => exact execReleaseCancellationRequest_queues p s
  | releaseCompletion p => exact execReleaseCompletion_queues p s
  | orphanStart p => exact execOrphanStart_queues p s
  | orphanRequest p => exact execOrphanRequest_queues p s
  | orphanCompletion p => exact execOrphanCompletion_queues p s
  | orphanCompletionReply p => exact execOrphanCompletionReply_queues p s
  | partingRequest p => exact execPartingRequest_queues p s
  | lineStep p => exact execLineStep_queues p s
  | freeStep p => exact execFreeStep_queues p s
  | subscriptionStep p => exact execSubscriptionStep_queues p s
  | partingStepReply p => exact execPartingStepReply_queues p s
  | flushReply p => exact execFlushReply_queues p s
  | refclkPeriod levels => exact execRefclkPeriod_queues levels s
  | _ => cases hc

end Machine
end Sys2Proof
end

section
/-! SUPPORT. The laws of the notice queues (R124, R126, R127, R132): each event of a queue keeps them, and every step keeps
them of every queue. -/

namespace Sys2Proof.Machine

variable {s t : State} {p : PortId} {c : Instr} {q : NoticeQueue} {m : Marker} {l : List Item}

/-! ### The overrun marker (R127) -/

/-- R127 for one marker: its counts run from 1 to 65535, and a later part stands only in a marker in flight. -/
structure Marker.Law (m : Marker) : Prop where
  dropped : 1 ≤ m.dropped ∧ m.dropped ≤ 65535
  later : ∀ t n, m.later = some (t, n) → m.inFlight = true ∧ 1 ≤ n ∧ n ≤ 65535

theorem Marker.law_of_no_later (hd : 1 ≤ m.dropped ∧ m.dropped ≤ 65535) (hl : m.later = none) : m.Law :=
  ⟨hd, fun t n h => by simp [hl] at h⟩

theorem raised_eq (n : Nat) : raised n = min (n + 1) 65535 := rfl

theorem raised_range (n : Nat) : 1 ≤ raised n ∧ raised n ≤ 65535 := by
  rw [raised_eq]
  omega

theorem Marker.drop_of_not_inFlight (h : m.inFlight = false) (t : Tick) :
    m.drop t = { m with dropped := min (m.dropped + 1) 65535 } := by
  simp [Marker.drop, h, raised_eq]

theorem Marker.drop_of_first (h : m.inFlight = true) (hl : m.later = none) (t : Tick) :
    m.drop t = { m with later := some (t, 1) } := by
  simp [Marker.drop, h, hl]

theorem Marker.drop_of_later (h : m.inFlight = true) {t' : Tick} {n : Nat} (hl : m.later = some (t', n)) (t : Tick) :
    m.drop t = { m with later := some (t', min (n + 1) 65535) } := by
  simp [Marker.drop, h, hl, raised_eq]

theorem Marker.fold_of_not_inFlight (h : m.inFlight = false) : m.fold = m := by
  simp [Marker.fold, h]

theorem Marker.fold_of_no_later (h : m.inFlight = true) (hl : m.later = none) : m.fold = { m with inFlight := false } := by
  simp [Marker.fold, h, hl]

theorem Marker.fold_of_later (h : m.inFlight = true) {t' : Tick} {n : Nat} (hl : m.later = some (t', n)) :
    m.fold = { tick := m.tick, dropped := min (m.dropped + n) 65535, inFlight := false, later := none } := by
  simp [Marker.fold, h, hl, Config.countLimit]

@[simp] theorem Marker.drop_inFlight (m : Marker) (t : Tick) : (m.drop t).inFlight = m.inFlight := by
  unfold Marker.drop
  split
  · split <;> rfl
  · rfl

@[simp] theorem Marker.fold_inFlight (m : Marker) : m.fold.inFlight = false := by
  unfold Marker.fold
  split
  · split <;> rfl
  · next h => simpa using h

theorem Marker.Law.drop (h : m.Law) (t : Tick) : (m.drop t).Law := by
  obtain ⟨hd, hl⟩ := h
  cases hf : m.inFlight with
  | false =>
    rw [Marker.drop_of_not_inFlight hf]
    exact ⟨raised_range _, fun t' n hn => absurd (hl t' n hn).1 (by simp [hf])⟩
  | true =>
    cases hlater : m.later with
    | none =>
      rw [Marker.drop_of_first hf hlater]
      refine ⟨hd, fun t' n hn => ?_⟩
      cases hn
      exact ⟨hf, by omega, by omega⟩
    | some part =>
      rw [Marker.drop_of_later hf hlater]
      refine ⟨hd, fun t' n hn => ?_⟩
      cases hn
      exact ⟨hf, raised_range _⟩

theorem Marker.Law.fold (h : m.Law) : m.fold.Law := by
  obtain ⟨hd, hl⟩ := h
  cases hf : m.inFlight with
  | false =>
    rw [Marker.fold_of_not_inFlight hf]
    exact ⟨hd, hl⟩
  | true =>
    cases hlater : m.later with
    | none =>
      rw [Marker.fold_of_no_later hf hlater]
      exact Marker.law_of_no_later hd hlater
    | some part =>
      rw [Marker.fold_of_later hf hlater]
      have := hl part.1 part.2 hlater
      exact Marker.law_of_no_later (by dsimp only; omega) rfl

theorem Marker.Law.markInFlight (h : m.Law) : Marker.Law { m with inFlight := true } :=
  ⟨h.dropped, fun t n hn => ⟨rfl, (h.later t n hn).2⟩⟩

/-! ### The items in flight stand at the head (R124) -/

/-- The items in flight stand together at the head. -/
def InFlightAtHead (l : List Item) : Prop :=
  ∃ front back, l = front ++ back ∧ (∀ it ∈ front, it.inFlight = true) ∧ ∀ it ∈ back, it.inFlight = false

theorem inFlightAtHead_iff : InFlightAtHead l ↔
    ∃ n, l.map Item.inFlight = List.replicate n true ++ List.replicate (l.length - n) false := by
  constructor
  · rintro ⟨front, back, rfl, hfront, hback⟩
    refine ⟨front.length, ?_⟩
    have hfront' : front.map Item.inFlight = List.replicate front.length true :=
      List.eq_replicate_iff.2 ⟨List.length_map _, by simpa using hfront⟩
    have hback' : back.map Item.inFlight = List.replicate back.length false :=
      List.eq_replicate_iff.2 ⟨List.length_map _, by simpa using hback⟩
    rw [List.map_append, hfront', hback', List.length_append, Nat.add_sub_cancel_left]
  · rintro ⟨n, h⟩
    refine ⟨l.take n, l.drop n, (List.take_append_drop n l).symm, fun it hit => ?_, fun it hit => ?_⟩
    · have hmem := List.mem_map_of_mem (f := Item.inFlight) hit
      rw [List.map_take, h, List.take_left' List.length_replicate] at hmem
      exact List.eq_of_mem_replicate hmem
    · have hmem := List.mem_map_of_mem (f := Item.inFlight) hit
      rw [List.map_drop, h, List.drop_left' List.length_replicate] at hmem
      exact List.eq_of_mem_replicate hmem

theorem InFlightAtHead.append (h : InFlightAtHead l) (n : Notice) : InFlightAtHead (l ++ [⟨n, false⟩]) := by
  obtain ⟨front, back, rfl, hfront, hback⟩ := h
  refine ⟨front, back ++ [⟨n, false⟩], by simp, hfront, fun it hit => ?_⟩
  obtain hit | rfl := List.mem_append.1 hit |>.imp_right List.mem_singleton.1
  · exact hback it hit
  · rfl

theorem InFlightAtHead.mark (h : InFlightAtHead l) (n : Nat) :
    InFlightAtHead ((l.take n).map (fun it => { it with inFlight := true }) ++ l.drop n) := by
  obtain ⟨front, back, rfl, hfront, hback⟩ := h
  refine ⟨((front ++ back).take n).map (fun it => { it with inFlight := true }) ++ front.drop n,
    back.drop (n - front.length), by simp [List.drop_append], fun it hit => ?_,
    fun it hit => hback it (List.mem_of_mem_drop hit)⟩
  obtain hit | hit := List.mem_append.1 hit
  · obtain ⟨it', -, rfl⟩ := List.mem_map.1 hit
    rfl
  · exact hfront it (List.mem_of_mem_drop hit)

theorem inFlightAtHead_of_none (h : ∀ it ∈ l, it.inFlight = false) : InFlightAtHead l := ⟨[], l, rfl, by simp, h⟩

/-! ### One queue -/

theorem NoticeQueue.law_iff : q.Law ↔ q.items.length ≤ 16 ∧ InFlightAtHead q.items ∧
    ∀ m, q.marker = some m → m.Law ∧ (m.inFlight = true → ∀ it ∈ q.items, it.inFlight = true) := by
  rw [inFlightAtHead_iff]
  constructor
  · rintro ⟨hcapacity, hhead, hlast, hdropped, hlater⟩
    exact ⟨hcapacity, hhead, fun m hm => ⟨⟨hdropped m hm, fun t n => hlater m t n hm⟩, hlast m hm⟩⟩
  · rintro ⟨hcapacity, hhead, hmarker⟩
    exact ⟨hcapacity, hhead, fun m hm => (hmarker m hm).2, fun m hm => (hmarker m hm).1.dropped,
      fun m t n hm => (hmarker m hm).1.later t n⟩

/-- The laws of one queue, as `QueueLaw` says them of every queue. -/
def NoticeQueue.Ok (q : NoticeQueue) : Prop := q.Law ∧ q.Quiet

/-- Nothing of the queue is in flight. -/
structure NoticeQueue.Still (q : NoticeQueue) : Prop where
  items : ∀ it ∈ q.items, it.inFlight = false
  marker : ∀ m, q.marker = some m → m.inFlight = false

/-- With nothing in flight a queue needs its capacity and the law of its marker. -/
theorem NoticeQueue.Still.ok (h : q.Still) (hcapacity : q.items.length ≤ 16) (hmarker : ∀ m, q.marker = some m → m.Law) :
    q.Ok :=
  ⟨NoticeQueue.law_iff.2 ⟨hcapacity, inFlightAtHead_of_none h.items, fun m hm =>
    ⟨hmarker m hm, fun hf => absurd hf (by simp [h.marker m hm])⟩⟩, fun _ => ⟨h.items, h.marker⟩⟩

theorem NoticeQueue.Law.marker (h : q.Law) (hm : q.marker = some m) : m.Law :=
  ((NoticeQueue.law_iff.1 h).2.2 m hm).1

theorem NoticeQueue.Ok.post (h : q.Ok) (n : Notice) : (q.post n).Ok := by
  obtain ⟨hlaw, hquiet⟩ := h
  obtain ⟨hcapacity, hhead, hmarker⟩ := NoticeQueue.law_iff.1 hlaw
  unfold NoticeQueue.post
  split
  · next m hm =>
    refine ⟨NoticeQueue.law_iff.2 ⟨hcapacity, hhead, fun m' hm' => ?_⟩, fun ha => ⟨(hquiet ha).1, fun m' hm' => ?_⟩⟩
    all_goals
      cases hm'
      rw [Marker.drop_inFlight]
    · exact ⟨(hmarker m hm).1.drop n.tick, (hmarker m hm).2⟩
    · exact (hquiet ha).2 m hm
  · next hm =>
    split
    · next hroom =>
      refine ⟨NoticeQueue.law_iff.2 ⟨?_, hhead.append n, fun m' hm' => ?_⟩, fun ha => ⟨fun it hit => ?_, fun m' hm' => ?_⟩⟩
      · rw [List.length_append]
        exact hroom
      · simp [hm] at hm'
      · obtain hit | rfl := List.mem_append.1 hit |>.imp_right List.mem_singleton.1
        · exact (hquiet ha).1 it hit
        · rfl
      · simp [hm] at hm'
    · refine ⟨NoticeQueue.law_iff.2 ⟨hcapacity, hhead, fun m' hm' => ?_⟩, fun ha => ⟨(hquiet ha).1, fun m' hm' => ?_⟩⟩
      all_goals cases hm'
      · exact ⟨Marker.law_of_no_later (by dsimp only; omega) rfl, fun hf => by cases hf⟩
      · rfl

theorem NoticeQueue.mem_mark_items {n : Nat} {it : Item} (h : it ∈ (q.mark n).items) :
    it.inFlight = true ∨ it ∈ q.items.drop n := by
  refine (List.mem_append.1 h).imp_left fun h => ?_
  obtain ⟨it', -, rfl⟩ := List.mem_map.1 h
  rfl

/-- A delivery from an attached queue (R128): a marker that it reaches has every ordinary notice in flight before it. -/
theorem NoticeQueue.Ok.mark (h : q.Ok) (ha : q.attached = true) (n : Nat) : (q.mark n).Ok := by
  obtain ⟨hcapacity, hhead, hmarker⟩ := NoticeQueue.law_iff.1 h.1
  refine ⟨NoticeQueue.law_iff.2 ⟨?_, hhead.mark n, fun m' hm' => ?_⟩, fun hna => absurd (ha.symm.trans hna) (by simp)⟩
  · simp [NoticeQueue.mark]
    omega
  · obtain ⟨m, hm, rfl⟩ := Option.map_eq_some_iff.1 hm'
    obtain ⟨hm, hlast⟩ := hmarker m hm
    split
    · next hreached =>
      have hall : q.items.drop n = [] := List.drop_eq_nil_of_le (of_decide_eq_true hreached).le
      exact ⟨hm.markInFlight, fun _ it hit => (NoticeQueue.mem_mark_items hit).resolve_right (by simp [hall])⟩
    · exact ⟨hm, fun hf it hit =>
        (NoticeQueue.mem_mark_items hit).elim id fun hit => hlast hf it (List.mem_of_mem_drop hit)⟩

/-- The marker after an acknowledgement is not in flight: it stood so, or is the later part of the one in flight. -/
theorem NoticeQueue.acknowledge_marker (h : q.Law) (hm : q.acknowledge.marker = some m) :
    m.inFlight = false ∧ m.Law := by
  obtain ⟨m', hm', hnext⟩ := Option.bind_eq_some_iff.1 hm
  split at hnext
  · obtain ⟨⟨t, n⟩, hlater, rfl⟩ := Option.map_eq_some_iff.1 hnext
    exact ⟨rfl, Marker.law_of_no_later ((h.marker hm').later t n hlater).2 rfl⟩
  · next hf =>
    cases hnext
    exact ⟨by simpa using hf, h.marker hm'⟩

theorem NoticeQueue.Ok.acknowledge (h : q.Ok) : q.acknowledge.Ok := by
  obtain ⟨hlaw, -⟩ := h
  refine NoticeQueue.Still.ok ⟨fun it hit => ?_, fun m hm => ?_⟩ ?_ fun m hm => ?_
  · simpa using (List.mem_filter.1 hit).2
  · exact (NoticeQueue.acknowledge_marker hlaw hm).1
  · exact (List.length_filter_le _ _).trans hlaw.capacity
  · exact (NoticeQueue.acknowledge_marker hlaw hm).2

/-- A return (R131), with either value of the attached record after it (R129, R132). -/
theorem NoticeQueue.Ok.giveBack (h : q.Ok) (attached : Bool) :
    NoticeQueue.Ok { q.giveBack with attached := attached } := by
  obtain ⟨hlaw, -⟩ := h
  refine NoticeQueue.Still.ok ⟨fun it hit => ?_, fun m hm => ?_⟩ ?_ fun m hm => ?_
  · obtain ⟨it', -, rfl⟩ := List.mem_map.1 hit
    rfl
  · obtain ⟨m', -, rfl⟩ := Option.map_eq_some_iff.1 hm
    exact m'.fold_inFlight
  · simpa [NoticeQueue.giveBack] using hlaw.capacity
  · obtain ⟨m', hm', rfl⟩ := Option.map_eq_some_iff.1 hm
    exact (hlaw.marker hm').fold

theorem NoticeQueue.Ok.attach (h : q.Ok) : NoticeQueue.Ok { q with attached := true } :=
  ⟨NoticeQueue.law_iff.2 ((NoticeQueue.law_iff (q := q)).1 h.1), fun hna => by cases hna⟩

theorem NoticeQueue.ok_of_empty (attached : Bool) : NoticeQueue.Ok { items := [], marker := none, attached := attached } :=
  NoticeQueue.Still.ok ⟨fun _ h => absurd h List.not_mem_nil, fun _ h => by cases h⟩ (Nat.zero_le 16) fun _ h => by cases h

/-! ### Every queue -/

theorem QueueLaw.of_queuesStay (h : QueueLaw s) (hs : QueuesStay s t) : QueueLaw t := fun p => by
  rw [hs p]
  exact h p

/-- An event of one queue that keeps its laws, after a change that leaves the queues. -/
theorem QueueLaw.updQueue (h : QueueLaw s) (hs : QueuesStay s t) {f : NoticeQueue → NoticeQueue}
    (hf : (t.port p).queue.Ok → (f (t.port p).queue).Ok) : QueueLaw (t.updQueue p f) := fun k => by
  have ht := h.of_queuesStay hs
  by_cases hk : k = p
  · rw [hk, State.updQueue_port_same]
    exact hf (ht p)
  · rw [State.updQueue_port_other _ _ hk]
    exact ht k

theorem QueueLaw.takeFetch (h : QueueLaw s) (p : PortId) (maximum : Byte) : QueueLaw (s.takeFetch p maximum) := by
  unfold State.takeFetch
  dsimp only
  split
  · exact h.of_queuesStay (.updWires p s _)
  · next ha =>
    split
    · exact h.of_queuesStay (.finish p rfl _ _)
    · exact (h.updQueue (.refl s) fun hq => hq.mark (by simpa using ha) _).of_queuesStay (.finish p rfl _ _)

theorem exec_keeps_queueLaw (h : QueueLaw s) (he : exec c s = .next t) : QueueLaw t := by
  by_cases hw : c.writesQueues = false
  · exact h.of_queuesStay (exec_queuesStay hw he)
  suffices Yields (exec c s) QueueLaw from this.of_next he
  cases c with
  | fetch p =>
    show Yields (execFetch p s) _
    unfold execFetch
    split
    · split
      · exact .next (h.takeFetch p _)
      · exact .next h
    · exact .next h
  | post p source =>
    show Yields (execPost p source s) _
    unfold execPost
    cases source <;> dsimp only <;> split
    · exact .next (h.updQueue (.updWires p s _) fun hq => hq.post _)
    · exact .next h
    · exact .next (h.updQueue (.updWires p s _) fun hq => hq.post _)
    · exact .next h
  | acknowledgement p =>
    show Yields (execAcknowledgement p s) _
    unfold execAcknowledgement
    split
    · exact .next (h.updQueue (.updWires p s _) fun hq => hq.acknowledge)
    · exact .next h
  | returnRequest p =>
    show Yields (execReturnRequest p s) _
    unfold execReturnRequest
    split
    · exact .next (h.updQueue (.updWires p s _) fun hq => hq.giveBack _)
    · exact .next h
  | departureReport p =>
    show Yields (execDepartureReport p s) _
    unfold execDepartureReport
    split
    · exact .next (h.updQueue (.updWires p s _) fun hq => hq.giveBack false)
    · exact .next h
  | attachmentReport p =>
    show Yields (execAttachmentReport p s) _
    unfold execAttachmentReport
    split
    · exact .next (h.updQueue (.updWires p s _) fun hq => hq.attach)
    · exact .next h
  | flush p =>
    show Yields (execFlush p s) _
    unfold execFlush
    split
    · exact .next (h.updQueue (.updWires p s _) fun _ => NoticeQueue.ok_of_empty _)
    · exact .next h
  | resetAssertion => exact .next (.of_reset fun p => by rw [State.assertReset_port]; rfl)
  | _ => exact absurd rfl hw

/-- Settles O55: the queue of steps is no part of the law, and the events of a queue that touch it each keep its law. -/
theorem stepsKeepTheQueueLaw : Obligations.StepsKeepTheQueueLaw :=
  step_keeps (fun _ _ h => h) fun _ _ _ => exec_keeps_queueLaw

end Sys2Proof.Machine
end

section
/-! SUPPORT. The notice queues: POST, FETCH, acknowledgement and return, the reports of the session controller, and the
attention output; the sending of completions and notices; and the events that stay in their port. -/

namespace Sys2Proof.Machine

variable {s : State} {p : PortId} {q : NoticeQueue} {n : Notice} {m : Marker}

/-! ### Sending -/

/-- Settles O9: each sending is a change of the wires of one port. -/
theorem sendingChangesOneList : Obligations.SendingChangesOneList := fun p s _ _ _ _ =>
  ⟨rfl, rfl, rfl, rfl, s.withPort_port_same p, fun pt _ hq => s.withPort_port_other pt hq⟩

/-! ### Events of one port -/

/-- Settles O60: each of these events is an event of its port. -/
theorem portEventsStayInTheirPort : Obligations.PortEventsStayInTheirPort := by
  intro p question first bits stray edges b source c s t hc he
  suffices Yields (exec c s) (PortEvent p s) by
    obtain ⟨pt, ht, -⟩ := this.of_next he
    exact ⟨pt, ht⟩
  simp only [List.mem_cons, List.not_mem_nil, or_false] at hc
  obtain rfl | rfl | rfl | rfl | rfl | rfl | rfl | rfl | rfl | rfl | rfl | rfl | rfl | rfl | rfl | rfl | rfl | rfl | rfl |
    rfl | rfl | rfl | rfl | rfl | rfl | rfl | rfl | rfl | rfl | rfl := hc
  exacts [execStatus_event ⟨p, question⟩ s, execHeartbeat_event p s, execParting_event p s, execFetch_event p s,
    execSessionControllerTick_event p s, execLapse_event p s, execLinkpFall_event ⟨p, edges⟩ s, execLinkpRise_event p s,
    execReportOfLinkpRising_event p s, execReportOfLinkpFalling_event p s, execWindowOpen_event p s,
    execOpener_event p first s, execCommandWindowClose_event p bits stray s, execResponseWindowClose_event p edges s,
    execAcceptanceReport_event p s, execAcceptanceAnswer_event p s, execCompletion_event p s,
    execWithdrawalRequest_event p b s, execWithdrawalReply_event p s, execDepartureInstruction_event p s,
    execSettlementReport_event p s, execDepartureReport_event p s, execAttachmentReport_event p s,
    execAcknowledgement_event p s, execReturnRequest_event p s, execPost_event p source s,
    execOrphanCompletionReply_event p s, execFlush_event p s, execPartingStepReply_event p s, execFlushReply_event p s]

/-! ### POST (R126) -/

/-- A queue takes a message from its wires: one change of its port. -/
theorem State.updWires_updQueue (s : State) (p : PortId) (f : Wires → Wires) (g : NoticeQueue → NoticeQueue) :
    (s.updWires p f).updQueue p g =
      s.withPort p { s.port p with queue := g (s.port p).queue, wires := f (s.port p).wires } := by
  rw [State.updWires, State.updQueue, State.updPort_eq_withPort, State.updPort_port_same, State.updPort_eq_withPort,
    State.withPort_withPort]

theorem NoticeQueue.post_of_room (hm : q.marker = none) (hroom : q.items.length < 16) :
    q.post n = { q with items := q.items ++ [⟨n, false⟩] } := by
  rw [NoticeQueue.post, hm]
  exact if_pos hroom

theorem NoticeQueue.post_of_full (hm : q.marker = none) (hfull : 16 ≤ q.items.length) :
    q.post n = { q with marker := some { tick := n.tick, dropped := 1, inFlight := false, later := none } } := by
  rw [NoticeQueue.post, hm]
  exact if_neg (Nat.not_lt.2 hfull)

theorem NoticeQueue.post_of_marker (hm : q.marker = some m) :
    q.post n = { q with marker := some (m.drop n.tick) } := by
  rw [NoticeQueue.post, hm]

theorem exec_post_of_schedule {rest : List Notice} (h : (s.port p).wires.postsOfSchedule = n :: rest) :
    exec (.post p .scheduleUnit) s = .next (s.withPort p { s.port p with
      queue := (s.port p).queue.post n, wires := { (s.port p).wires with postsOfSchedule := rest } }) := by
  show execPost p .scheduleUnit s = _
  simp only [execPost, h, State.updWires_updQueue]

theorem exec_post_of_trigger {rest : List Notice} (h : (s.port p).wires.postsOfTrigger = n :: rest) :
    exec (.post p .triggerUnit) s = .next (s.withPort p { s.port p with
      queue := (s.port p).queue.post n, wires := { (s.port p).wires with postsOfTrigger := rest } }) := by
  show execPost p .triggerUnit s = _
  simp only [execPost, h, State.updWires_updQueue]

/-- Settles O32: the marker and the room decide what POST does, the mark in flight and the later part what a drop and a
return do. -/
theorem postKeepsOrDropsTheNotice : Obligations.PostKeepsOrDropsTheNotice := by
  refine ⟨fun p n rest s => ?_, fun m t => ⟨fun hf => Marker.drop_of_not_inFlight hf t,
    fun hf hl => Marker.drop_of_first hf hl t, fun _ _ hf hl => Marker.drop_of_later hf hl t, Marker.fold_of_not_inFlight,
    Marker.fold_of_no_later, fun _ _ hf hl => Marker.fold_of_later hf hl⟩, fun _ _ _ _ _ _ _ _ _ => ⟨rfl, rfl, rfl, rfl⟩⟩
  rintro q after source (⟨rfl, h⟩ | ⟨rfl, h⟩)
  · rw [exec_post_of_schedule h]
    exact ⟨fun hm hroom => by rw [NoticeQueue.post_of_room hm hroom],
      fun hm hfull => by rw [NoticeQueue.post_of_full hm hfull], fun m hm => by rw [NoticeQueue.post_of_marker hm]⟩
  · rw [exec_post_of_trigger h]
    exact ⟨fun hm hroom => by rw [NoticeQueue.post_of_room hm hroom],
      fun hm hfull => by rw [NoticeQueue.post_of_full hm hfull], fun m hm => by rw [NoticeQueue.post_of_marker hm]⟩

/-! ### FETCH (R128, R129) -/

theorem exec_fetch_of_requested {maximum : Byte} (h : Requested s p (.fetch maximum))
    (hl : (s.port p).wires.linkToQueue = []) : exec (.fetch p) s = .next (s.takeFetch p maximum) := by
  show execFetch p s = _
  rw [execFetch, (s.request_iff p _).2 h]
  exact if_pos hl

/-- FETCH waits behind an acknowledgement or a return (R146). -/
theorem exec_fetch_behind_link (hl : (s.port p).wires.linkToQueue ≠ []) : exec (.fetch p) s = .next s := by
  show execFetch p s = _
  unfold execFetch
  split
  · exact if_neg hl
  · rfl

section Delivery
variable {k : Nat} (hk : k ≤ q.items.length)
include hk

/-- A delivery that ends before the marker. -/
theorem NoticeQueue.mark_of_le : q.mark k = { q with
    items := (q.items.take k).map (fun it => { it with inFlight := true }) ++ q.items.drop k } := by
  have hr : q.reaches k = false := decide_eq_false (Nat.not_lt.2 hk)
  simp [NoticeQueue.mark, hr]

theorem NoticeQueue.delivered_of_le : q.delivered k = (q.items.take k).map fun it => .notice it.notice := by
  have hr : q.reaches k = false := decide_eq_false (Nat.not_lt.2 hk)
  unfold NoticeQueue.delivered
  split <;> simp [hr]

end Delivery

/-- A delivery of every item, the marker last. -/
theorem NoticeQueue.mark_of_marker (hm : q.marker = some m) : q.mark (q.items.length + 1) = { q with
    items := q.items.map (fun it => { it with inFlight := true }), marker := some { m with inFlight := true } } := by
  simp [NoticeQueue.mark, NoticeQueue.reaches, hm, List.take_of_length_le]

theorem NoticeQueue.delivered_of_marker (hm : q.marker = some m) : q.delivered (q.items.length + 1) =
    (q.items.map fun it => .notice it.notice) ++ [.overrun m.tick m.dropped] := by
  simp [NoticeQueue.delivered, NoticeQueue.reaches, hm]

theorem NoticeQueue.size_of_no_marker (hm : q.marker = none) : q.size = q.items.length := by
  simp [NoticeQueue.size, hm]

theorem NoticeQueue.size_of_marker (hm : q.marker = some m) : q.size = q.items.length + 1 := by
  simp [NoticeQueue.size, hm]

theorem NoticeQueue.size_eq (q : NoticeQueue) : q.size = q.items.length + if q.marker = none then 0 else 1 := by
  cases hm : q.marker <;> simp [NoticeQueue.size, hm]

theorem State.takeFetch_of_unattached (ha : (s.port p).queue.attached = false) (maximum : Byte) :
    s.takeFetch p maximum = s.withPort p { s.port p with wires := { (s.port p).wires with
      request := none, toLink := (s.port p).wires.toLink ++ [.fetchWithdrawn] } } :=
  if_pos (by simp [ha])

section Attached
variable {maximum : Byte} (ha : (s.port p).queue.attached = true)
include ha

theorem State.takeFetch_of_badArg (h : maximum.toNat = 0 ∨ 7 < maximum.toNat) :
    s.takeFetch p maximum = s.finish p .badArg .empty := by
  have hbad : maximum = 0 ∨ 7 < maximum.toNat := h.imp_left fun h => BitVec.eq_of_toNat_eq h
  exact (if_neg (by simp [ha])).trans (if_pos hbad)

/-- A FETCH in range delivers and marks the first k items, k the smaller of its maximum and the number of items. -/
theorem State.takeFetch_of_range {k : Nat} (hlow : 1 ≤ maximum.toNat) (hhigh : maximum.toNat ≤ 7)
    (hk : min maximum.toNat (s.port p).queue.size = k) : s.takeFetch p maximum =
      (s.withPort p { s.port p with queue := (s.port p).queue.mark k }).finish p .ok
        (.fetch ((s.port p).queue.delivered k) ((s.port p).queue.size - k)) := by
  have hgood : ¬ (maximum = 0 ∨ 7 < maximum.toNat) := by
    rintro (rfl | h)
    · simp at hlow
    · omega
  subst hk
  exact (if_neg (by simp [ha])).trans (if_neg hgood)

end Attached

/-- Settles O33: the attached record and the range decide, and the maximum is compared with the number of items. -/
theorem fetchDeliversFromTheHead : Obligations.FetchDeliversFromTheHead := by
  refine ⟨fun p maximum s hreq hlink => ?_, fun p maximum s _ hlink => exec_fetch_behind_link hlink⟩
  rw [exec_fetch_of_requested hreq hlink]
  refine ⟨fun ha => by rw [State.takeFetch_of_unattached ha], fun ha hbad => by rw [State.takeFetch_of_badArg ha hbad],
    fun ha hlow hhigh => ⟨fun hle => ?_, fun hlt hm => ?_, fun m hlt hm => ?_⟩⟩
  · have hsize := (s.port p).queue.size_eq
    rw [State.takeFetch_of_range ha hlow hhigh (Nat.min_eq_left (by omega)), NoticeQueue.mark_of_le hle,
      NoticeQueue.delivered_of_le hle, hsize]
  · have hsize := NoticeQueue.size_of_no_marker hm
    rw [State.takeFetch_of_range ha hlow hhigh (Nat.min_eq_right (by omega)), hsize, NoticeQueue.mark_of_le le_rfl,
      NoticeQueue.delivered_of_le le_rfl, List.take_length, List.drop_length, List.append_nil, Nat.sub_self]
  · have hsize := NoticeQueue.size_of_marker hm
    rw [State.takeFetch_of_range ha hlow hhigh (Nat.min_eq_right (by omega)), hsize, NoticeQueue.mark_of_marker hm,
      NoticeQueue.delivered_of_marker hm, Nat.sub_self]

/-! ### Acknowledgement, return and reports (R129 to R132, R134) -/

theorem exec_acknowledgement_of_message {rest : List LinkToQueue}
    (h : (s.port p).wires.linkToQueue = .acknowledge :: rest) : exec (.acknowledgement p) s = .next (s.withPort p
      { s.port p with
        queue := (s.port p).queue.acknowledge, wires := { (s.port p).wires with linkToQueue := rest } }) := by
  show execAcknowledgement p s = _
  rw [execAcknowledgement, h]
  exact congrArg _ (State.updWires_updQueue s p _ _)

theorem exec_returnRequest_of_message {rest : List LinkToQueue}
    (h : (s.port p).wires.linkToQueue = .giveBack :: rest) : exec (.returnRequest p) s = .next (s.withPort p
      { s.port p with
        queue := (s.port p).queue.giveBack, wires := { (s.port p).wires with linkToQueue := rest } }) := by
  show execReturnRequest p s = _
  rw [execReturnRequest, h]
  exact congrArg _ (State.updWires_updQueue s p _ _)

/-- Settles O34: the marker after an acknowledgement is that of `acknowledge`, and the items after a return are those of
`giveBack`. -/
theorem acknowledgementRemovesAndReturnKeeps : Obligations.AcknowledgementRemovesAndReturnKeeps := by
  refine fun p rest s => ⟨fun h => ⟨_, exec_acknowledgement_of_message h, fun hm => ?_, fun m hm => ⟨fun hf => ?_,
    fun hf hl => ?_, fun t n hf hl => ?_⟩⟩, exec_returnRequest_of_message⟩
  · simp [hm]
  · simp [hm, hf]
  · simp [hm, hf, hl]
  · simp [hm, hf, hl]

/-- Settles O35: each report is taken from the wires with its change of the queue. -/
theorem queueTakesTheReports : Obligations.QueueTakesTheReports := by
  refine fun p rest s => ⟨fun h => ?_, fun h => ?_, fun h => ?_⟩
  · show execAttachmentReport p s = _
    rw [execAttachmentReport, h]
    exact congrArg _ (State.updWires_updQueue s p _ _)
  · show execDepartureReport p s = _
    rw [execDepartureReport, h]
    exact congrArg _ (State.updWires_updQueue s p _ _)
  · show execFlush p s = _
    rw [execFlush, h]
    exact congrArg _ (State.updWires_updQueue s p _ _)

/-! ### The attention output (R136, R137) -/

theorem NoticeQueue.waits_iff (q : NoticeQueue) : q.waits = true ↔
    (∃ it ∈ q.items, it.inFlight = false) ∨ ∃ m, q.marker = some m ∧ m.inFlight = false := by
  simp [NoticeQueue.waits, Option.any_eq_true]

/-- Settles O36, by the port state. -/
theorem attentionShowsItsTwoCauses : Obligations.AttentionShowsItsTwoCauses := by
  intro p s
  cases hs : (s.port p).session.state with
  | detached => simp [State.attention, hs]
  | recovering cause => simp [State.attention, hs]
  | attached => simp [State.attention, hs, NoticeQueue.waits_iff]

end Sys2Proof.Machine
end

section
/-! SUPPORT. Withdrawals: what a block answers, what the answer does to the path, and the requests that wait behind a
withdrawal. -/

namespace Sys2Proof.Machine

variable {s : State} {p : PortId} {pt : Port} {m : ToLink} {w : Wires} {x : Withdrawal} {c : Instr}

/-! ### A withdrawal at its block (R153) -/

theorem Port.stillWaits_of_session (hb : x.block = .session) : pt.stillWaits x = true ↔
    x.live = true ∧ (pt.session.waiting ≠ none ∨ pt.session.removed = true) := by
  simp [Port.stillWaits, hb, Option.isSome_iff_ne_none]

theorem Port.stillWaits_of_block (hb : x.block ≠ .session) : pt.stillWaits x = true ↔
    x.live = true ∧ ∃ command, pt.wires.request = some command ∧ command.block = x.block := by
  simp [Port.stillWaits, hb, Option.any_eq_true]

section Block
variable (hb : x.block ≠ .session)
include hb

theorem Port.withdraw_of_request (h : pt.stillWaits x = true) : pt.withdraw x =
    { pt with wires := { pt.wires with request := none, toLink := pt.wires.toLink ++ [.withdrawn] } } := by
  simp [Port.withdraw, Wires.answerWithdrawal, h, hb]

theorem Port.withdraw_of_no_request (h : ¬ pt.stillWaits x = true) : pt.withdraw x =
    { pt with wires := { pt.wires with toLink := pt.wires.toLink ++ [.taken x.live] } } := by
  simp [Port.withdraw, Wires.answerWithdrawal, h, hb]

end Block

section AtSession
variable (hb : x.block = .session)
include hb

theorem Port.withdraw_of_waiting (h : pt.stillWaits x = true) : pt.withdraw x =
    { pt with
      session := { pt.session with waiting := none, removed := false }
      wires := { pt.wires with fromSession := pt.wires.fromSession ++ [.reply .withdrawn] } } := by
  simp [Port.withdraw, Wires.answerWithdrawal, h, hb]

theorem Port.withdraw_of_not_waiting (h : ¬ pt.stillWaits x = true) : pt.withdraw x =
    { pt with wires := { pt.wires with fromSession := pt.wires.fromSession ++ [.reply (.taken x.live)] } } := by
  simp [Port.withdraw, Wires.answerWithdrawal, h, hb]

end AtSession

/-- The block takes the oldest withdrawal under way to it; a session controller that is answering a STATUS takes none. -/
theorem exec_withdrawalRequest_of_oldest {b : Block} {before after : List Withdrawal}
    (hasking : b ≠ .session ∨ s.asking p = false) (hb : x.block = b)
    (hw : (s.port p).wires.withdrawals = before ++ x :: after) (hbefore : ∀ y ∈ before, y.block ≠ b)
    (h : Port.withdraw { s.port p with wires := { (s.port p).wires with withdrawals := before ++ after } } x = pt) :
    exec (.withdrawalRequest p b) s = .next (s.withPort p pt) := by
  have hfind : ((s.port p).wires.withdrawals.find? fun y => decide (y.block = b)) = some x := by
    have hnone : (before.find? fun y => decide (y.block = b)) = none :=
      List.find?_eq_none.2 fun y hy => by simpa using hbefore y hy
    rw [hw, List.find?_append, hnone, List.find?_cons_of_pos (by simpa using hb)]
    rfl
  have herase : (s.port p).wires.withdrawals.erase x = before ++ after := by
    have hmem : x ∉ before := fun h => hbefore x h hb
    rw [hw, List.erase_append_right _ hmem, List.erase_cons_head]
  have hfree : ¬ (b = .session ∧ s.asking p = true) := by
    rintro ⟨hsession, ha⟩
    simp [hsession, ha] at hasking
  show execWithdrawalRequest p b s = _
  rw [execWithdrawalRequest, hfind]
  refine (if_neg hfree).trans ?_
  rw [State.updWires, State.updPort_eq_withPort, State.updPort_eq_withPort, State.withPort_withPort,
    State.withPort_port_same, herase, ← h]

/-! ### The answer at the port link controller (R164) -/

/-- What stands first for the port link controller, and the wires without it: a message of another block, or one of the
session controller when no reply of another block stands before it (log 12). -/
def State.Offers (s : State) (p : PortId) (m : ToLink) (w : Wires) : Prop :=
  ∃ (rest : List ToLink) (more : List FromSession),
    ((s.port p).wires.toLink = m :: rest ∧ w = { (s.port p).wires with toLink := rest }) ∨
      (((s.port p).wires.toLink = [] ∨ ∃ c rest', (s.port p).wires.toLink = .completion c :: rest') ∧
        (s.port p).wires.fromSession = .reply m :: more ∧ w = { (s.port p).wires with fromSession := more })

theorem exec_withdrawalReply_of_offers (hoffers : s.Offers p m w) (hm : m.isCompletion = false)
    (h : Port.takeMessage { s.port p with wires := w } m = pt) :
    exec (.withdrawalReply p) s = .next (s.withPort p pt) := by
  have hfind : ((s.port p).wires.offers.find? fun y => !y.1.isCompletion) = some (m, w) := by
    obtain ⟨rest, more, ⟨hl, rfl⟩ | ⟨hl, hs, rfl⟩⟩ := hoffers
    · exact Wires.offers_reply hl hm
    · exact Wires.offers_sessionReply hl hs hm
  show execWithdrawalReply p s = _
  rw [execWithdrawalReply, hfind, ← h]
  rfl

theorem Port.takeMessage_withdrawn {r : Request} (hpath : pt.link.path = .pending r true) :
    pt.takeMessage .withdrawn = { pt with
      link := { pt.link with path := .idle, priorLost := false, discardedFrame := false, replyDue := false }
      wires := { pt.wires with toSession := pt.wires.toSession ++ [.settlement] } } := by
  simp [Port.takeMessage, Port.takeWithdrawn, hpath, Port.replySettles, Port.settle, Link.giveUp]

theorem Port.takeMessage_taken_live : pt.takeMessage (.taken true) = { pt with
    link := { pt.link with replyDue := false }
    wires := { pt.wires with toSession := pt.wires.toSession ++ [.settlement] } } := by
  simp [Port.takeMessage, Port.replySettles, Port.settle]

/-- A reply to the withdrawal of an earlier request settles, and is not the one that is due (log 13). -/
theorem Port.takeMessage_taken_retired : pt.takeMessage (.taken false) =
    { pt with wires := { pt.wires with toSession := pt.wires.toSession ++ [.settlement] } } := by
  simp [Port.takeMessage, Port.replySettles, Port.settle]

theorem Port.takeMessage_fetchWithdrawn {r : Request} (hpath : pt.link.path = .pending r true) :
    pt.takeMessage .fetchWithdrawn = { pt with
      link := { pt.link with path := .idle, priorLost := false, discardedFrame := false }
      wires := { pt.wires with toSession := pt.wires.toSession ++ [.settlement] } } := by
  simp [Port.takeMessage, Port.takeFetchWithdrawn, hpath, Port.settle, Link.giveUp]

/-- No departure instruction has come yet: the settlement is left to it (log 14). -/
theorem Port.takeMessage_fetchWithdrawn_early {r : Request} (hpath : pt.link.path = .pending r false) :
    pt.takeMessage .fetchWithdrawn = { pt with link := { pt.link with path := .idle } } := by
  simp [Port.takeMessage, Port.takeFetchWithdrawn, hpath]

/-! ### Requests behind a withdrawal (R152) -/

/-- A block other than the session controller finds no request of the port. -/
theorem exec_of_no_request (h : (s.port p).request = none)
    (hc : c ∈ [Instr.time p, .prescale p, .claim p, .release p, .drive p, .lines p, .schedule p, .cancel p, .query p,
      .list p, .alloc p, .free p, .load p, .segments p, .subscribe p, .unsubscribe p, .inputs p, .fetch p]) :
    exec c s = .next s := by
  simp only [List.mem_cons, List.not_mem_nil, or_false] at hc
  obtain rfl | rfl | rfl | rfl | rfl | rfl | rfl | rfl | rfl | rfl | rfl | rfl | rfl | rfl | rfl | rfl | rfl | rfl := hc
  all_goals
    simp only [exec, execTime, execPrescale, execClaim, execRelease, execDrive, execLines, execSchedule, execCancel,
      execQuery, execList, execAlloc, execFree, execLoad, execSegments, execSubscribe, execUnsubscribe, execInputs,
      execFetch, h]

/-- The session controller finds no request of its port. -/
theorem exec_of_no_sessionRequest {question : StatusQuestion} (h : (s.port p).sessionRequest = none)
    (hc : c ∈ [Instr.status ⟨p, question⟩, .heartbeat p, .parting p]) : exec c s = .next s := by
  simp only [List.mem_cons, List.not_mem_nil, or_false] at hc
  obtain rfl | rfl | rfl := hc
  all_goals simp only [exec, execStatus, execHeartbeat, execParting, h]

/-- Settles O44: whether the request still waits decides the answer, and the path what the answer does. -/
theorem withdrawalsAreAnsweredAndSettle : Obligations.WithdrawalsAreAnsweredAndSettle := by
  refine ⟨fun p b live before after s hb hw hbefore => ?_, fun p live before after s hasking hw hbefore => ?_,
    fun p m rest more w r s hoffers => ?_, fun p request x c s hr hx hb hl hc => ?_,
    fun p question x c s hx hb hl hc => ?_⟩
  · have hnext {pt : Port} := exec_withdrawalRequest_of_oldest (pt := pt) (.inl hb) rfl hw hbefore
    refine ⟨fun command hlive hr hcommand => hnext (Port.withdraw_of_request hb ?_),
      fun htaken => hnext (Port.withdraw_of_no_request hb fun h => ?_)⟩
    · exact (Port.stillWaits_of_block hb).2 ⟨hlive, command, hr, hcommand⟩
    · obtain ⟨hlive, command, hr, hcommand⟩ := (Port.stillWaits_of_block hb).1 h
      exact htaken.elim (fun hdead => by simp [hdead] at hlive) fun hnone => hnone command hr hcommand
  · have hfree : s.asking p = false := by simp [State.asking, hasking]
    have hnext {pt : Port} := exec_withdrawalRequest_of_oldest (pt := pt) (.inr hfree) rfl hw hbefore
    refine ⟨fun hlive hwaits => hnext (Port.withdraw_of_waiting rfl ?_),
      fun htaken => hnext (Port.withdraw_of_not_waiting rfl fun h => ?_)⟩
    · exact (Port.stillWaits_of_session rfl).2 ⟨hlive, hwaits⟩
    · obtain ⟨hlive, hwaits⟩ := (Port.stillWaits_of_session rfl).1 h
      obtain hdead | ⟨hnone, hremoved⟩ := htaken
      · simp [hdead] at hlive
      · exact hwaits.elim (fun hsome => hsome hnone) fun hgone => by simp [hremoved] at hgone
  · have hnext {pt : Port} := exec_withdrawalReply_of_offers (pt := pt) ⟨rest, more, hoffers⟩
    refine ⟨?_, ?_, ?_, ?_⟩
    · rintro rfl hpath
      exact hnext rfl (Port.takeMessage_withdrawn hpath)
    · rintro rfl
      exact hnext rfl Port.takeMessage_taken_live
    · rintro rfl
      exact hnext rfl Port.takeMessage_taken_retired
    · rintro rfl
      exact ⟨fun hpath => hnext rfl (Port.takeMessage_fetchWithdrawn hpath),
        fun hpath => hnext rfl (Port.takeMessage_fetchWithdrawn_early hpath)⟩
  · exact exec_of_no_request (Port.request_held hr hx hb hl) hc
  · exact exec_of_no_sessionRequest (Port.sessionRequest_held hx hb hl) hc

end Sys2Proof.Machine
end

section
/-! SUPPORT. The windows of the link: the opener fixes what a window is and what SDO carries in it, and the close of a
response window judges the read. -/

namespace Sys2Proof.Machine

variable {s : State} {p : PortId} {l : Link} {edges n : Nat} {sent : List Byte} {pt : Port}

/-! ### Bits and bytes (R138) -/

theorem byteOfBits_getLsbD (b : Byte) : byteOfBits (b.getLsbD 7) (b.getLsbD 6) (b.getLsbD 5) (b.getLsbD 4) (b.getLsbD 3)
    (b.getLsbD 2) (b.getLsbD 1) (b.getLsbD 0) = b := by
  refine BitVec.eq_of_getLsbD_eq fun i hi => ?_
  rw [byteOfBits, BitVec.getLsbD_ofBoolListBE]
  interval_cases i <;> rfl

/-! ### The opener (R140, R148, R180) -/

theorem exec_opener_of_opening {bits : Vector Bool 8} {byte : Byte} (hw : (s.port p).link.window = .opening)
    (hbits : ∀ i : Fin 8, bits[i] = byte.getLsbD (7 - i.val))
    (h : (if byte = Config.commandOpener then { (s.port p).link with window := .command }
      else if byte = Config.responseOpener then (s.port p).link.answerWindow
      else { (s.port p).link with window := .ignored }) = l) :
    exec (.opener p bits) s = .next (s.withPort p { s.port p with link := l }) := by
  have hbit (i : Nat) (hi : i < 8) : bits[i] = byte.getLsbD (7 - i) := hbits ⟨i, hi⟩
  have hbyte : byteOfBits bits[0] bits[1] bits[2] bits[3] bits[4] bits[5] bits[6] bits[7] = byte := by
    simp only [hbit, Nat.reduceSub, byteOfBits_getLsbD]
  show execOpener p bits s = _
  rw [execOpener, hbyte, ← h]
  refine (if_pos hw).trans ?_
  split_ifs <;> rfl

theorem Link.answerWindow_of_idle (h : l.path = .idle) : l.answerWindow = { l with window := .response [0x81] } := by
  simp only [Link.answerWindow, h, Config.noneMarker]

theorem Link.answerWindow_of_pending {r : Request} {discard : Bool} (h : l.path = .pending r discard) :
    l.answerWindow = { l with window := .response [0x82] } := by
  simp only [Link.answerWindow, h, Config.busyMarker]

theorem Link.answerWindow_of_ready {frame : List Byte} {delivery : Bool} (h : l.path = .ready frame delivery) :
    l.answerWindow = { l with window := .response (0x84 :: frame), path := .sending frame delivery } := by
  simp only [Link.answerWindow, h, Config.readyMarker]

/-! ### SDO (R138) -/

theorem Window.sdo_of_silent {w : Window} (h : ∀ sent, w ≠ .response sent) : w.sdo n = false := by
  cases w with
  | response sent => exact absurd rfl (h sent)
  | _ => simp [Window.sdo, Window.byteAt]

theorem Window.sdo_opener (h : n < 8) : (Window.response sent).sdo n = false := by
  have hplace : n / 8 + 1 < 2 := by omega
  simp [Window.sdo, Window.byteAt, hplace]

/-- The byte at the place k + 2 of the window, counted from 1, follows k others. -/
theorem Window.sdo_response {k i : Nat} (hi : i < 8) (hn : n = 8 * (k + 1) + i) :
    (Window.response sent).sdo n = (sent.getD k 0).getLsbD (7 - i) := by
  have hplace : n / 8 + 1 = k + 2 := by omega
  have hbit : n % 8 = i := by omega
  simp [Window.sdo, Window.byteAt, hplace, hbit]

theorem Window.sdo_filler (h : 8 * (sent.length + 1) ≤ n) : (Window.response sent).sdo n = false := by
  have hpast : sent.length ≤ n / 8 - 1 := by omega
  rw [Window.sdo_response (k := n / 8 - 1) (Nat.mod_lt n (by omega)) (by omega), List.getD_eq_default _ _ hpast]
  exact BitVec.getLsbD_zero

/-- Settles O38: the byte of the opener and the path give the window, and the place in the window gives SDO. -/
theorem openerFixesTheWindow : Obligations.OpenerFixesTheWindow := by
  refine ⟨fun p bits byte s hw hbits => ?_, fun p n s => ⟨Window.sdo_of_silent, fun sent hsent => ?_⟩⟩
  · have hnext {l : Link} := exec_opener_of_opening (l := l) hw hbits
    refine ⟨?_, ?_, fun r d => ?_, fun frame delivery => ?_, fun hcommand hresponse => ?_⟩
    · rintro rfl
      exact hnext rfl
    · rintro rfl hpath
      exact hnext (Link.answerWindow_of_idle hpath)
    · rintro rfl hpath
      exact hnext (Link.answerWindow_of_pending hpath)
    · rintro rfl hpath
      exact hnext (Link.answerWindow_of_ready hpath)
    · exact hnext ((if_neg hcommand).trans (if_neg hresponse))
  · simp only [State.sdoPin, hsent]
    refine ⟨Window.sdo_opener, fun k hk i hi hn => ?_, Window.sdo_filler⟩
    rw [Window.sdo_response hi hn, List.getD_eq_getElem _ _ hk]

/-! ### The close of a response window (R149) -/

theorem exec_responseWindowClose_of_response (hsel : (s.port p).link.sel = true)
    (hw : (s.port p).link.window = .response sent)
    (h : Port.closeResponse { s.port p with link := (s.port p).link.deselect } edges = pt) :
    exec (.responseWindowClose p edges) s = .next (s.withPort p pt) := by
  show execResponseWindowClose p edges s = _
  rw [execResponseWindowClose, if_neg (by simp [hsel])]
  simp only [hw, State.updLink, State.updPort_eq_withPort, State.withPort_withPort, State.withPort_port_same, h]

/-- Settles O41: the read is judged by `closeResponse`, and every other window only ends. -/
theorem responseWindowsJudgeTheRead : Obligations.ResponseWindowsJudgeTheRead := by
  refine ⟨fun p edges sent s hsel hw => ?_, fun p bits stray edges s hsel hw => ?_⟩
  · have hnext {pt : Port} := exec_responseWindowClose_of_response (pt := pt) (edges := edges) hsel hw
    exact ⟨fun frame delivery hpath => ⟨fun hedges => hnext (Port.closeResponse_of_complete hpath hedges),
      fun hedges => hnext (Port.closeResponse_of_partial hpath hedges)⟩,
      fun hpath => hnext (Port.closeResponse_of_no_read hpath)⟩
  · have hsel' : ¬ (!(s.port p).link.sel) = true := by simp [hsel]
    constructor
    · show execCommandWindowClose p bits stray s = _
      rw [execCommandWindowClose, if_neg hsel']
      rcases hw with hw | hw | hw <;> simp only [hw] <;> rfl
    · show execResponseWindowClose p edges s = _
      rw [execResponseWindowClose, if_neg hsel']
      rcases hw with hw | hw | hw <;> simp only [hw] <;> rfl

end Sys2Proof.Machine
end

section
/-! SUPPORT. The command windows: the check byte, the judgement of the bits that a window sampled, and its close by the
state of the path. -/

namespace Sys2Proof.Machine

variable {s : State} {p : PortId} {pt : Port} {sq code echo : Byte} {args : List Byte} {r : Request}
  {frame : List Byte} {delivery : Bool} {j : Judgement}

/-! ### The bytes of the sampled bits (R138, R141) -/

/-- The bits of a byte as they travel, the most significant first (R138). -/
def bitsOfByte (b : Byte) : List Bool := (List.range 8).map fun i => b.getLsbD (7 - i)

theorem wholeBytes_bitsOfByte_append (b : Byte) (bits : List Bool) :
    wholeBytes (bitsOfByte b ++ bits) = b :: wholeBytes bits := by
  conv_rhs => rw [← byteOfBits_getLsbD b]
  rfl

theorem wholeBytes_of_short {stray : List Bool} (h : stray.length < 8) : wholeBytes stray = [] := by
  unfold wholeBytes
  split
  · simp only [List.length_cons] at h
    omega
  · rfl

theorem wholeBytes_flatMap_append {stray : List Bool} (h : stray.length < 8) (bytes : List Byte) :
    wholeBytes (bytes.flatMap bitsOfByte ++ stray) = bytes := by
  induction bytes with
  | nil => exact wholeBytes_of_short h
  | cons b bytes ih => rw [List.flatMap_cons, List.append_assoc, wholeBytes_bitsOfByte_append, ih]

theorem strayBits_flatMap_append {stray : List Bool} (h : stray.length < 8) (bytes : List Byte) :
    strayBits (bytes.flatMap bitsOfByte ++ stray) = stray.length := by
  have hlength : (bytes.flatMap bitsOfByte).length = 8 * bytes.length := by
    simp [bitsOfByte, List.length_flatMap, Nat.mul_comm]
  rw [strayBits, List.length_append, hlength]
  omega

/-! ### The judgement (R142) -/

theorem judgeFrame_of_stray {stray : Nat} (h : stray ≠ 0) : judgeFrame [] stray = .badFrame 0 := by
  simp [judgeFrame, h]

theorem judgeFrame_of_ill_sized {length : Byte} {rest : List Byte} {stray : Nat}
    (h : length.toNat < 2 ∨ 96 < length.toNat ∨ stray ≠ 0 ∨ rest.length ≠ length.toNat + 1) :
    judgeFrame (length :: rest) stray = .badFrame (rest.headD 0) := by
  have hsize : length.toNat < 2 ∨ 96 < length.toNat ∨ stray ≠ 0 ∨ (length :: rest).length + 1 ≠ length.toNat + 3 := by
    simpa using h
  rw [judgeFrame, Config.keptBytes, List.take_succ_cons]
  refine (if_pos hsize).trans ?_
  cases rest <;> rfl

/-- A window of the right size is kept whole, and its last byte decides. -/
theorem judgeFrame_of_well_sized {length check : Byte} (hn : length.toNat = args.length + 2) (hmax : length.toNat ≤ 96) :
    judgeFrame (length :: (sq :: code :: args ++ [check])) 0 =
      if check = crc8 (length :: sq :: code :: args) then .accepted sq code args else .badFrame sq := by
  have hsize : ¬ (length.toNat < 2 ∨ 96 < length.toNat ∨ (0 : Nat) ≠ 0 ∨
      (length :: (sq :: code :: args ++ [check])).length + 1 ≠ length.toNat + 3) := by
    simp only [List.length_cons, List.length_append, List.length_nil]
    omega
  have hkept : (length :: (sq :: code :: args ++ [check])).take 98 = length :: sq :: code :: (args ++ [check]) :=
    List.take_of_length_le (by simp only [List.length_cons, List.length_append, List.length_nil]; omega)
  have hargs : length.toNat - 2 = args.length := by omega
  rw [judgeFrame, Config.keptBytes, hkept]
  refine (if_neg hsize).trans ?_
  simp [hargs]

/-! ### The check byte (R143) -/

theorem crcShift_of_low {r : Byte} (h : r.getLsbD 7 = false) : crcShift r = r <<< 1 :=
  if_neg (by rw [BitVec.msb_eq_getLsbD_last, h]; exact Bool.false_ne_true)

theorem crcShift_of_high {r : Byte} (h : r.getLsbD 7 = true) : crcShift r = (r <<< 1) ^^^ 0x07 :=
  if_pos ((BitVec.msb_eq_getLsbD_last r).trans h)

theorem crc8_append_byte (bytes : List Byte) (b : Byte) : crc8 (bytes ++ [b]) = crcShift^[8] (crc8 bytes ^^^ b) := by
  simp only [crc8, List.foldl_append]
  rfl

/-- Settles O39: the size of the window decides before its check byte does. -/
theorem framesAreJudgedAtTheClose : Obligations.FramesAreJudgedAtTheClose := by
  refine ⟨rfl, fun stray => judgeFrame_of_stray, fun length rest stray => ⟨judgeFrame_of_ill_sized, ?_⟩,
    fun bytes stray h => ?_, rfl, fun bytes b => ?_⟩
  · rintro sq code args check rfl hn hmax rfl
    rw [judgeFrame_of_well_sized hn hmax]
    exact ⟨fun hcheck => if_pos hcheck, fun hcheck => if_neg hcheck⟩
  · exact congrArg₂ judgeFrame (wholeBytes_flatMap_append h bytes) (strayBits_flatMap_append h bytes)
  · refine ⟨fun i => crcShift^[i] (crc8 bytes ^^^ b), rfl, (crc8_append_byte bytes b).symm, fun i _ => ?_⟩
    simp only [Function.iterate_succ_apply']
    exact ⟨crcShift_of_low, crcShift_of_high⟩

/-! ### The close by the state of the path (R142, R145 to R147) -/

theorem exec_commandWindowClose_of_command {bits stray : List Bool} (hsel : (s.port p).link.sel = true)
    (hw : (s.port p).link.window = .command) (hj : judgeBits (bits ++ stray) = j)
    (h : Port.closeCommand { s.port p with link := (s.port p).link.deselect } j = pt) :
    exec (.commandWindowClose p bits stray) s = .next (s.withPort p pt) := by
  show execCommandWindowClose p bits stray s = _
  rw [execCommandWindowClose, if_neg (by simp [hsel])]
  simp only [hw, State.updLink, State.updPort_eq_withPort, State.withPort_withPort, State.withPort_port_same, hj, h]

theorem Port.abandon_of_ready (hpath : pt.link.path = .ready frame delivery) : pt.abandon = { pt with
    link := { pt.link with path := .idle, priorLost := true }
    wires := { pt.wires with
      linkToQueue := pt.wires.linkToQueue ++ (if delivery = true then [.giveBack] else []) } } := by
  simp only [Port.abandon, hpath]
  cases delivery
  · simp
  · rfl

section Pending
variable (hj : j ≠ .ignored)
include hj

/-- Neither an accepted frame nor a BAD_FRAME is answered while a request is in flight (R147). -/
theorem Port.closeCommand_of_pending (hpath : pt.link.path = .pending r false) :
    pt.closeCommand j = { pt with link := { pt.link with discardedFrame := true } } := by
  cases j with
  | ignored => exact absurd rfl hj
  | _ => simp [Port.closeCommand, hpath, Port.discardFrame]

/-- No mark is left on a request that is given up (R154). -/
theorem Port.closeCommand_of_discarded (hpath : pt.link.path = .pending r true) : pt.closeCommand j = pt := by
  cases j with
  | ignored => exact absurd rfl hj
  | _ => simp [Port.closeCommand, hpath, Port.discardFrame]

end Pending

theorem Port.closeCommand_accepted_of_idle (hpath : pt.link.path = .idle) :
    pt.closeCommand (.accepted sq code args) = pt.accept sq code args := by
  simp only [Port.closeCommand, hpath]

theorem Port.closeCommand_accepted_of_ready (hpath : pt.link.path = .ready frame delivery) :
    pt.closeCommand (.accepted sq code args) = Port.accept { pt with
      link := { pt.link with path := .idle, priorLost := true }
      wires := { pt.wires with
        linkToQueue := pt.wires.linkToQueue ++ (if delivery = true then [.giveBack] else []) } } sq code args := by
  rw [← Port.abandon_of_ready hpath]
  simp only [Port.closeCommand, hpath]

theorem Port.closeCommand_badFrame_of_idle (hpath : pt.link.path = .idle) :
    pt.closeCommand (.badFrame echo) = pt.refuseFrame echo := by
  simp only [Port.closeCommand, hpath]

theorem Port.closeCommand_badFrame_of_ready (hpath : pt.link.path = .ready frame delivery) :
    pt.closeCommand (.badFrame echo) = Port.refuseFrame { pt with
      link := { pt.link with path := .idle, priorLost := true }
      wires := { pt.wires with
        linkToQueue := pt.wires.linkToQueue ++ (if delivery = true then [.giveBack] else []) } } echo := by
  rw [← Port.abandon_of_ready hpath]
  simp only [Port.closeCommand, hpath]

/-- Settles O40: the judgement and the path decide; an unread response is abandoned first. -/
theorem commandWindowsCloseByThePath : Obligations.CommandWindowsCloseByThePath := by
  intro p bits stray s hsel hw
  have hnext {j : Judgement} {pt : Port} := exec_commandWindowClose_of_command (bits := bits) (stray := stray) (j := j)
    (pt := pt) hsel hw
  refine ⟨fun hj => hnext hj rfl, fun sq code args hj => ⟨fun hpath => ?_, fun r hpath => ?_, fun r hpath => ?_,
    fun frame delivery hpath => ?_⟩, fun echo hj => ⟨fun hpath => ?_, fun r hpath => ?_, fun r hpath => ?_,
    fun frame delivery hpath => ?_⟩⟩
  · exact hnext hj (Port.closeCommand_accepted_of_idle hpath)
  · exact hnext hj (Port.closeCommand_of_pending nofun hpath)
  · exact hnext hj (Port.closeCommand_of_discarded nofun hpath)
  · exact hnext hj (Port.closeCommand_accepted_of_ready hpath)
  · exact hnext hj (Port.closeCommand_badFrame_of_idle hpath)
  · exact hnext hj (Port.closeCommand_of_pending nofun hpath)
  · exact hnext hj (Port.closeCommand_of_discarded nofun hpath)
  · exact hnext hj (Port.closeCommand_badFrame_of_ready hpath)

end Sys2Proof.Machine
end

section
/-! SUPPORT. The answer of the session controller: the checks of a request, its handing, and the codes and argument layouts
of the commands. -/

namespace Sys2Proof.Machine

variable {s : State} {p : PortId} {pt : Port} {r : Request} {c : Command} {status : Status} {attached : Bool} {code : Byte}
  {args : List Byte}

/-! ### The argument bytes (R178, R181) -/

theorem word16_bytes (v : BitVec 16) : word16 (BitVec.ofNat 8 (v.toNat / 256)) (BitVec.ofNat 8 v.toNat) = v := by
  refine BitVec.eq_of_toNat_eq ?_
  have hv := v.isLt
  rw [word16, BitVec.toNat_append, ← Nat.shiftLeft_add_eq_or_of_lt (BitVec.isLt _), Nat.shiftLeft_eq, BitVec.toNat_ofNat,
    BitVec.toNat_ofNat]
  omega

theorem patternWords_flatMap (ws : List LevelSet) : patternWords (ws.flatMap fun w => bigEndian 2 w.toNat) = some ws := by
  induction ws with
  | nil => rfl
  | cons w ws ih =>
    have hw : bigEndian 2 w.toNat = [BitVec.ofNat 8 (w.toNat / 256), BitVec.ofNat 8 w.toNat] := by
      simp [bigEndian, List.range_succ]
    simp only [List.flatMap_cons, hw, List.cons_append, List.nil_append, patternWords, ih, Option.map_some, word16_bytes]

theorem patternWords_eq_none_iff (l : List Byte) : patternWords l = none ↔ l.length % 2 = 1 := by
  induction l using patternWords.induct with
  | case1 => simp [patternWords]
  | case2 => simp [patternWords]
  | case3 a b rest ih =>
    simp only [patternWords, Option.map_eq_none_iff, ih, List.length_cons]
    omega

/-! ### The command codes (R181) -/

/-- The codes that call for one length, each with it. -/
def fixedLengths : List (Nat × Nat) :=
  [(0x01, 0), (0x02, 4), (0x03, 0), (0x08, 1), (0x10, 0), (0x11, 3), (0x20, 5), (0x21, 2), (0x22, 4), (0x23, 0),
    (0x30, 20), (0x31, 2), (0x32, 2), (0x33, 1), (0x40, 2), (0x41, 1), (0x43, 0), (0x50, 4), (0x51, 1), (0x52, 0)]

/-- The code names a command that calls for n argument bytes. -/
def CallsFor (code : Byte) (n : Nat) : Prop :=
  (∀ x : Fin n → Byte, ∃ c, parseCommand code (List.ofFn x) = .ok c) ∧
    ∀ args, args.length ≠ n → parseCommand code args = .error .badArg

theorem callsFor_of_mem {n : Nat} (h : (code.toNat, n) ∈ fixedLengths) : CallsFor code n := by
  simp only [fixedLengths, List.mem_cons, List.not_mem_nil, or_false, Prod.mk.injEq] at h
  have hcode {k : Nat} (hk : code.toNat = k) : code = BitVec.ofNat 8 k := by simp [← hk]
  rcases h with h | h | h | h | h | h | h | h | h | h | h | h | h | h | h | h | h | h | h | h
  all_goals
    obtain ⟨hk, rfl⟩ := h
    obtain rfl := hcode hk
    refine ⟨fun x => ⟨_, rfl⟩, fun args hlength => ?_⟩
    unfold parseCommand
    simp only [BitVec.reduceEq, BitVec.ofNat_eq_ofNat, if_true, if_false]
    split
    · exact absurd rfl hlength
    · rfl

section Fixed
variable {n : Nat} (h : CallsFor code n)
include h

theorem CallsFor.ok_of_length (hlength : args.length = n) : ∃ c, parseCommand code args = .ok c := by
  obtain ⟨hok, -⟩ := h
  subst hlength
  simpa only [List.ofFn_get] using hok args.get

theorem CallsFor.badArg_of_length (hlength : args.length ≠ n) : parseCommand code args = .error .badArg := h.2 args hlength

theorem CallsFor.badArg_iff : parseCommand code args = .error .badArg ↔ args.length ≠ n := by
  refine ⟨fun he hlength => ?_, h.badArg_of_length⟩
  obtain ⟨c, hc⟩ := h.ok_of_length hlength
  rw [he] at hc
  cases hc

theorem CallsFor.error_badArg (he : parseCommand code args = .error status) : status = .badArg := by
  by_cases hlength : args.length = n
  · obtain ⟨c, hc⟩ := h.ok_of_length hlength
    rw [he] at hc
    cases hc
  · rw [h.badArg_of_length hlength] at he
    cases he
    rfl

end Fixed

/-! ### LOAD -/

theorem parseCommand_load_of_words {a b : Byte} {rest : List Byte} {ws : List LevelSet} (h : patternWords rest = some ws) :
    parseCommand 0x42 (a :: b :: rest) = .ok (.load a b ws) := by
  simp [parseCommand, h]

theorem parseCommand_load_of_odd {a b : Byte} {rest : List Byte} (h : patternWords rest = none) :
    parseCommand 0x42 (a :: b :: rest) = .error .badArg := by
  simp [parseCommand, h]

theorem parseCommand_load (args : List Byte) :
    (parseCommand 0x42 args = .error .badArg ∧ (args.length < 2 ∨ args.length % 2 = 1)) ∨
      (∃ c, parseCommand 0x42 args = .ok c) ∧ ¬ (args.length < 2 ∨ args.length % 2 = 1) := by
  match args with
  | [] => exact .inl ⟨rfl, .inl (by simp)⟩
  | [_] => exact .inl ⟨rfl, .inl (by simp)⟩
  | a :: b :: rest =>
    have hodd := patternWords_eq_none_iff rest
    simp only [List.length_cons]
    cases hwords : patternWords rest with
    | none => exact .inl ⟨parseCommand_load_of_odd hwords, by simp only [hwords, true_iff] at hodd; omega⟩
    | some ws =>
      exact .inr ⟨⟨_, parseCommand_load_of_words hwords⟩, by simp only [hwords, reduceCtorEq, false_iff] at hodd; omega⟩

theorem parseCommand_load_badArg_iff : parseCommand 0x42 args = .error .badArg ↔ args.length < 2 ∨ args.length % 2 = 1 := by
  obtain ⟨he, hlength⟩ | ⟨⟨c, hc⟩, hlength⟩ := parseCommand_load args
  · simp only [he, hlength]
  · simp only [hc, hlength, reduceCtorEq]

/-! ### Every code -/

/-- The codes of the 21 commands. -/
def commandCodes : List Nat :=
  [0x01, 0x02, 0x03, 0x08, 0x10, 0x11, 0x20, 0x21, 0x22, 0x23, 0x30, 0x31, 0x32, 0x33, 0x40, 0x41, 0x42, 0x43, 0x50, 0x51,
    0x52]

theorem mem_fixedLengths_or_load {k : Nat} (h : k ∈ commandCodes) : (∃ n, (k, n) ∈ fixedLengths) ∨ k = 0x42 := by
  simp only [commandCodes, List.mem_cons, List.not_mem_nil, or_false] at h
  rcases h with rfl | rfl | rfl | rfl | rfl | rfl | rfl | rfl | rfl | rfl | rfl | rfl | rfl | rfl | rfl | rfl | rfl | rfl |
    rfl | rfl | rfl <;> simp [fixedLengths]

theorem parseCommand_of_unknown (h : code.toNat ∉ commandCodes) : parseCommand code args = .error .unknown := by
  simp only [commandCodes, List.mem_cons, List.not_mem_nil, or_false, not_or] at h
  simp [parseCommand, ← BitVec.toNat_inj, h]

/-- A code that names a command is refused for the length of its body only. -/
theorem parseCommand_error_of_named (h : code.toNat ∈ commandCodes) (he : parseCommand code args = .error status) :
    status = .badArg := by
  obtain ⟨n, hn⟩ | hload := mem_fixedLengths_or_load h
  · exact (callsFor_of_mem hn).error_badArg he
  · obtain rfl : code = 0x42 := BitVec.eq_of_toNat_eq hload
    obtain ⟨hbad, -⟩ | ⟨⟨c, hc⟩, -⟩ := parseCommand_load args
    · rw [hbad] at he
      cases he
      rfl
    · rw [hc] at he
      cases he

theorem parseCommand_unknown_iff : parseCommand code args = .error .unknown ↔ code.toNat ∉ commandCodes :=
  ⟨fun he h => absurd (parseCommand_error_of_named h he) nofun, parseCommand_of_unknown⟩

theorem parseCommand_error (he : parseCommand code args = .error status) : status = .unknown ∨ status = .badArg := by
  by_cases h : code.toNat ∈ commandCodes
  · exact .inr (parseCommand_error_of_named h he)
  · rw [parseCommand_of_unknown h] at he
    cases he
    exact .inl rfl

/-! ### The checks and the handing (R151, R152) -/

theorem exec_acceptanceAnswer_of_answer {rest : List FromSession} (hm : (s.port p).wires.fromSession = .answer attached :: rest)
    (h : Port.takeAnswer { s.port p with wires := { (s.port p).wires with fromSession := rest } } attached = pt) :
    exec (.acceptanceAnswer p) s = .next (s.withPort p pt) := by
  show execAcceptanceAnswer p s = _
  simp only [execAcceptanceAnswer, hm, State.updWires, State.updPort_eq_withPort, State.withPort_withPort,
    State.withPort_port_same, h]

theorem checkRequest_of_not_ready (hstate : attached = false) (hcode : code ≠ 0x01) :
    checkRequest attached code args = .error .notReady := if_pos ⟨hstate, hcode⟩

theorem checkRequest_of_ready (h : ¬ (attached = false ∧ code ≠ 0x01)) :
    checkRequest attached code args = parseCommand code args := if_neg h

section Unhanded
variable (hblock : r.block = none)
include hblock

theorem Port.takeAnswer_of_discarded (hpath : pt.link.path = .pending r true) : pt.takeAnswer attached = { pt with
    link := { pt.link with path := .idle, priorLost := false, discardedFrame := false } } := by
  simp [Port.takeAnswer, hpath, hblock, Link.giveUp]

section Kept
variable (hpath : pt.link.path = .pending r false)
include hpath

theorem Port.takeAnswer_of_refused (hcheck : checkRequest attached r.code r.args = .error status) :
    pt.takeAnswer attached = { pt with link := { pt.link with
      path := .ready (responseFrame r.sequence (flagsByte pt.link.priorLost pt.link.discardedFrame) ⟨status, .empty⟩) false
      priorLost := false
      discardedFrame := false } } := by
  simp [Port.takeAnswer, hpath, hblock, hcheck, Link.assemble, Result.delivers]

theorem Port.takeAnswer_of_passed (hcheck : checkRequest attached r.code r.args = .ok c) :
    pt.takeAnswer attached = pt.hand r c := by
  simp [Port.takeAnswer, hpath, hblock, hcheck]

theorem Port.takeAnswer_to_session (hcheck : checkRequest attached r.code r.args = .ok c) (hc : c.block = .session) :
    pt.takeAnswer attached = { pt with
      link := { pt.link with path := .pending { r with block := some .session } false, replyDue := false }
      session := { pt.session with waiting := some ⟨c, false⟩ }
      wires := pt.wires.retireWithdrawals } := by
  rw [Port.takeAnswer_of_passed hblock hpath hcheck, Port.hand, if_pos hc, hc]

theorem Port.takeAnswer_to_block (hcheck : checkRequest attached r.code r.args = .ok c) (hc : c.block ≠ .session) :
    pt.takeAnswer attached = { pt with
      link := { pt.link with path := .pending { r with block := some c.block } false, replyDue := false }
      wires := { pt.wires.retireWithdrawals with request := some c } } := by
  rw [Port.takeAnswer_of_passed hblock hpath hcheck, Port.hand, if_neg hc]

end Kept
end Unhanded

/-- Settles O42: the checks in their order, and the code and the length of the body decide what a frame names. -/
theorem answersCheckTheRequest : Obligations.AnswersCheckTheRequest := by
  refine ⟨fun p attached rest r discard s hm hpath hblock => ?_, ⟨fun _ => rfl, fun m hm => ?_, fun _ => rfl, fun _ => rfl,
    fun _ => rfl⟩, fun _ _ _ _ _ _ _ _ _ => ?_, fun code args => ⟨parseCommand_unknown_iff, ?_, ?_, ?_⟩,
    fun a b c d e => ?_, fun x => rfl⟩
  · have hnext {pt : Port} := exec_acceptanceAnswer_of_answer (pt := pt) hm
    refine ⟨?_, ?_⟩
    · rintro rfl
      exact hnext (Port.takeAnswer_of_discarded hblock hpath)
    · rintro rfl
      refine ⟨fun hstate hcode => ?_,
        fun hready => ⟨fun status he => ?_, fun c hc => ⟨fun hsession => ?_, fun hother => ?_⟩⟩⟩
      · exact hnext (Port.takeAnswer_of_refused hblock hpath (checkRequest_of_not_ready hstate hcode))
      · exact hnext (Port.takeAnswer_of_refused hblock hpath ((checkRequest_of_ready hready).trans he))
      · exact hnext (Port.takeAnswer_to_session hblock hpath ((checkRequest_of_ready hready).trans hc) hsession)
      · exact hnext (Port.takeAnswer_to_block hblock hpath ((checkRequest_of_ready hready).trans hc) hother)
  · cases m with
    | taken live => exact absurd rfl (hm live)
    | _ => rfl
  · simp only [Command.block, and_self]
  · exact fun status => parseCommand_error
  · exact fun n hn => (callsFor_of_mem hn).badArg_iff
  · rintro rfl
    exact parseCommand_load_badArg_iff
  · refine ⟨rfl, rfl, rfl, rfl, rfl, rfl, rfl, rfl, rfl, rfl, rfl, rfl, rfl, rfl, rfl, rfl, rfl, rfl, rfl, fun ws => ?_⟩
    exact parseCommand_load_of_words (patternWords_flatMap ws)

end Sys2Proof.Machine
end

section
/-! SUPPORT. The departure instruction at the port link controller. -/

namespace Sys2Proof.Machine

variable {s : State} {p : PortId} {pt : Port} {r : Request} {b : Block} {discard toDetached : Bool} {frame sent : List Byte}
  {delivery : Bool}

theorem exec_departureInstruction_of_departure {rest : List FromSession}
    (hm : (s.port p).wires.fromSession = .departure toDetached :: rest)
    (h : Port.takeDeparture { s.port p with wires := { (s.port p).wires with fromSession := rest } } toDetached = pt) :
    exec (.departureInstruction p) s = .next (s.withPort p pt) := by
  show execDepartureInstruction p s = _
  simp only [execDepartureInstruction, hm, State.updWires, State.updPort_eq_withPort, State.withPort_withPort,
    State.withPort_port_same, h]

/-! ### No request is handed (R154, R164) -/

/-- The departure is settled in its own event, and the link is left as given. -/
def Port.settledWith (pt : Port) (l : Link) : Port :=
  { pt with link := l, wires := { pt.wires with toSession := pt.wires.toSession ++ [.settlement] } }

theorem Port.settledWith_eq_settle (pt : Port) (l : Link) : Port.settle { pt with link := l } = pt.settledWith l := rfl

theorem Port.takeDeparture_of_unread (hpath : pt.link.path = .idle ∨ ∃ frame delivery, pt.link.path = .ready frame delivery) :
    pt.takeDeparture toDetached =
      pt.settledWith { pt.link with path := .idle, priorLost := false, discardedFrame := false } := by
  obtain hpath | ⟨frame, delivery, hpath⟩ := hpath
  · simp only [Port.takeDeparture, hpath, ← Port.settledWith_eq_settle, Link.clearMarks]
  · simp only [Port.takeDeparture, hpath, ← Port.settledWith_eq_settle, Link.giveUp]

theorem Port.takeDeparture_of_sending (hpath : pt.link.path = .sending frame delivery)
    (hwindow : pt.link.window = .response sent) : pt.takeDeparture toDetached =
      pt.settledWith { pt.link with path := .idle, window := .response [], priorLost := false, discardedFrame := false } := by
  simp only [Port.takeDeparture, hpath, hwindow, ← Port.settledWith_eq_settle, Link.giveUp, Window.silenced]

theorem Port.takeDeparture_of_unhanded (hpath : pt.link.path = .pending r discard) (hblock : r.block = none) :
    pt.takeDeparture toDetached = pt.settledWith
      { pt.link with path := .pending r (discard || toDetached), priorLost := false, discardedFrame := false } := by
  simp only [Port.takeDeparture, hpath, hblock, ← Port.settledWith_eq_settle, Link.clearMarks]

/-! ### A request handed to a block (R154, R164) -/

/-- The discard mark stands on the request, and the other marks are clear. -/
def Link.discarding (l : Link) (r : Request) : Link :=
  { l with path := .pending r true, priorLost := false, discardedFrame := false }

theorem Link.discarding_of_discarded {l : Link} (hpath : l.path = .pending r true) : l.discarding r = l.clearMarks := by
  rw [Link.discarding, Link.clearMarks, hpath]

section Handed
variable (hblock : r.block = some b)
include hblock

theorem Port.takeDeparture_of_handed (hpath : pt.link.path = .pending r discard) :
    pt.takeDeparture toDetached = pt.departHanded r b discard := by
  simp only [Port.takeDeparture, hpath, hblock]

/-- The queue withdraws a FETCH itself. -/
theorem Port.takeDeparture_of_fetch (hpath : pt.link.path = .pending r discard) (hb : b = .noticeQueue) :
    pt.takeDeparture toDetached = { pt with link := pt.link.discarding r } := by
  rw [Port.takeDeparture_of_handed hblock hpath]
  exact if_pos hb

/-- The first departure sends the withdrawal, whose reply settles it. -/
theorem Port.takeDeparture_of_first (hpath : pt.link.path = .pending r false) (hb : b ≠ .noticeQueue) :
    pt.takeDeparture toDetached = { pt with
      link := { pt.link.discarding r with replyDue := true }
      wires := { pt.wires with withdrawals := pt.wires.withdrawals ++ [⟨b, true⟩] } } := by
  rw [Port.takeDeparture_of_handed hblock hpath]
  exact if_neg hb

section Second
variable (hpath : pt.link.path = .pending r true)
include hpath

/-- The reply or answer under way settles both departures (log 17). -/
theorem Port.takeDeparture_of_due (h : b = .noticeQueue ∨ pt.link.replyDue = true) :
    pt.takeDeparture toDetached = { pt with link := pt.link.clearMarks } := by
  rw [← Link.discarding_of_discarded hpath]
  by_cases hb : b = .noticeQueue
  · exact Port.takeDeparture_of_fetch hblock hpath hb
  · rw [Port.takeDeparture_of_handed hblock hpath]
    exact (if_neg hb).trans (if_pos (h.resolve_left hb))

/-- The reply to the first departure has been taken, and settled that one only. -/
theorem Port.takeDeparture_of_taken (hb : b ≠ .noticeQueue) (hdue : pt.link.replyDue = false) :
    pt.takeDeparture toDetached = pt.settledWith pt.link.clearMarks := by
  rw [← Link.discarding_of_discarded hpath, Port.takeDeparture_of_handed hblock hpath]
  exact (if_neg hb).trans (if_neg (Bool.eq_false_iff.1 hdue))

end Second
end Handed

/-- Settles O45, by the path and, for a request that was handed, by its block and its discard mark. -/
theorem departureInstructionsClearThePath : Obligations.DepartureInstructionsClearThePath := by
  intro p toDetached rest s hm
  have hnext {pt : Port} := exec_departureInstruction_of_departure (pt := pt) hm
  refine ⟨fun hpath => ?_, fun frame delivery sent hpath hwindow => ?_, fun r discard hpath hblock => ?_,
    fun r b hpath hblock => ⟨fun hb => ?_, fun hb => ?_⟩, fun r b hpath hblock => ?_⟩
  · exact hnext (Port.takeDeparture_of_unread hpath)
  · exact hnext (Port.takeDeparture_of_sending hpath hwindow)
  · exact hnext (Port.takeDeparture_of_unhanded hpath hblock)
  · exact hnext (Port.takeDeparture_of_fetch hblock hpath hb)
  · exact hnext (Port.takeDeparture_of_first hblock hpath hb)
  · exact ⟨fun hdue => hnext (Port.takeDeparture_of_due hblock hpath hdue),
      fun hb hdue => hnext (Port.takeDeparture_of_taken hblock hpath hb hdue)⟩

end Sys2Proof.Machine
end

section
/-! SUPPORT. Completions: the assembling of a response and its dropping, and the bytes of results and records on the
wire. -/

namespace Sys2Proof.Machine

/-! ### A completion at the port link controller (R150, R164) -/

section Completions
variable {s : State} {p : PortId} {pt : Port} {w : Wires} {c : Completion} {r : Request}

theorem exec_completion_of_offer (hoffer : ((s.port p).wires.offers.find? fun x => x.1.isCompletion) = some (.completion c, w))
    (h : Port.takeCompletion { s.port p with wires := w } c = pt) : exec (.completion p) s = .next (s.withPort p pt) := by
  show execCompletion p s = _
  rw [execCompletion, hoffer, ← h]
  rfl

theorem Port.takeCompletion_of_kept (hpath : pt.link.path = .pending r false) : pt.takeCompletion c = { pt with
    link := { pt.link with
      path := .ready (responseFrame r.sequence (flagsByte pt.link.priorLost pt.link.discardedFrame) c) c.result.delivers
      priorLost := false
      discardedFrame := false } } := by
  simp [Port.takeCompletion, hpath, Link.assemble]

theorem Port.takeCompletion_of_dropped (hpath : pt.link.path = .pending r true) (hblock : r.block ≠ some .noticeQueue) :
    pt.takeCompletion c =
      { pt with link := { pt.link with path := .idle, priorLost := false, discardedFrame := false } } := by
  simp [Port.takeCompletion, hpath, hblock, Link.giveUp]

/-- A dropped FETCH settles its departure. -/
theorem Port.takeCompletion_of_dropped_fetch (hpath : pt.link.path = .pending r true) (hblock : r.block = some .noticeQueue) :
    pt.takeCompletion c =
      pt.settledWith { pt.link with path := .idle, priorLost := false, discardedFrame := false } := by
  simp [Port.takeCompletion, hpath, hblock, Link.giveUp, ← Port.settledWith_eq_settle]

/-- Nothing can be taken while another message stands first among those of the session controller (R160). -/
theorem Wires.offers_of_other {m : FromSession} {more : List FromSession} (hl : w.toLink = []) (hs : w.fromSession = m :: more)
    (hm : ∀ x, m ≠ .reply x) : w.offers = [] := by
  cases m with
  | reply x => exact absurd rfl (hm x)
  | _ => simp [Wires.offers, hl, hs]

theorem exec_completion_of_no_offer (h : (s.port p).wires.offers = []) : exec (.completion p) s = .next s := by
  show execCompletion p s = _
  simp [execCompletion, h]

theorem exec_withdrawalReply_of_no_offer (h : (s.port p).wires.offers = []) : exec (.withdrawalReply p) s = .next s := by
  show execWithdrawalReply p s = _
  simp [execWithdrawalReply, h]

end Completions

/-! ### Fields, most significant byte first (R178) -/

@[simp] theorem bigEndian_one (n : Nat) : bigEndian 1 n = [byteOf n] := by
  simp [bigEndian, byteOf, List.range_succ]

/-- A byte of a number is that of the word which holds it. -/
theorem extractLsb'_ofNat_byte {w k : Nat} (n : Nat) (h : k * 8 + 8 ≤ w) :
    (BitVec.ofNat w n).extractLsb' (k * 8) 8 = BitVec.ofNat 8 (n / 256 ^ k) := by
  have hpow : 2 ^ (k * 8) = 256 ^ k := by rw [Nat.mul_comm, Nat.pow_mul]
  refine BitVec.eq_of_getLsbD_eq fun i hi => ?_
  have hbyte : k * 8 + i < w := by omega
  rw [BitVec.getLsbD_extractLsb', BitVec.getLsbD_ofNat, BitVec.getLsbD_ofNat, ← hpow, ← Nat.shiftRight_eq_div_pow,
    Nat.testBit_shiftRight]
  simp only [hi, hbyte, decide_true, Bool.true_and]

theorem bigEndian_eq_extract {w k : Nat} (h : k * 8 ≤ w) (n : Nat) :
    bigEndian k n = (List.range k).map fun i => (BitVec.ofNat w n).extractLsb' ((k - 1 - i) * 8) 8 :=
  List.map_congr_left fun i hi => (extractLsb'_ofNat_byte n (by have := List.mem_range.1 hi; omega)).symm

@[simp] theorem nat16_eq (n : Nat) : nat16 n = bigEndian 2 n := (bigEndian_eq_extract (k := 2) (le_refl 16) n).symm

@[simp] theorem nat24_eq (n : Nat) : nat24 n = bigEndian 3 n := (bigEndian_eq_extract (k := 3) (le_refl 24) n).symm

@[simp] theorem bytes16_eq (v : BitVec 16) : bytes16 v = bigEndian 2 v.toNat := by
  rw [← nat16_eq, nat16, BitVec.ofNat_toNat, BitVec.setWidth_eq]

@[simp] theorem bytes24_eq (v : BitVec 24) : bytes24 v = bigEndian 3 v.toNat := by
  rw [← nat24_eq, nat24, BitVec.ofNat_toNat, BitVec.setWidth_eq]

@[simp] theorem bytes32_eq (v : BitVec 32) : bytes32 v = bigEndian 4 v.toNat := by
  rw [bigEndian_eq_extract (k := 4) (le_refl 32), BitVec.ofNat_toNat, BitVec.setWidth_eq]
  rfl

/-! ### Named values and flags (R178, R179, R182) -/

theorem ReportedState.byte_eq (st : ReportedState) :
    st.byte = if st = .timed then 0 else if st = .waiting then 1 else 2 := by
  cases st <;> rfl

theorem CancelCause.byte_eq (cause : CancelCause) :
    cause.byte = if cause = .released then 0 else if cause = .orphaned then 1 else 2 := by
  cases cause <;> rfl

theorem RecoveryCause.byte_eq (cause : RecoveryCause) :
    cause.byte = if cause = .reset then 0 else if cause = .linkLoss then 1 else 2 := by
  cases cause <;> rfl

theorem Direction.byte_eq (dir : Direction) : dir.byte = if dir = .rise then 0 else 1 := by
  cases dir <;> rfl

theorem EdgeSelection.byte_eq (sel : EdgeSelection) : sel.byte = if sel = .rise then 0 else if sel = .fall then 1 else 2 := by
  cases sel <;> rfl

theorem Notify.byte_eq (notify : Notify) : notify.byte = if notify = .none then 0 else if notify = .last then 1 else 2 := by
  cases notify <;> rfl

theorem policyByte_eq (policy : Option Policy) : (policy.map Policy.byte).getD absent =
    if policy = none then 0xFF else if policy = some .hold then 0 else if policy = some .freeze then 1 else 2 := by
  rcases policy with _ | _ | _ | _ <;> rfl

theorem latePolicyByte_eq (policy : Option LatePolicy) : (policy.map LatePolicy.byte).getD absent =
    if policy = none then 0xFF else if policy = some .refuse then 0 else 1 := by
  rcases policy with _ | _ | _ <;> rfl

theorem sampleByte_eq (sampled : Option Bool) : (sampled.map flagByte).getD absent =
    if sampled = none then 0xFF else if sampled = some true then 1 else 0 := by
  rcases sampled with _ | _ | _ <;> rfl

theorem lineStateByte_eq (level safeLevel held : Bool) :
    flagByte level ||| (flagByte safeLevel <<< 1) ||| (flagByte held <<< 2) =
      BitVec.ofNat 8 ((if level = true then 1 else 0) + (if safeLevel = true then 2 else 0) + if held = true then 4 else 0) := by
  cases level <;> cases safeLevel <;> cases held <;> rfl

theorem flagsByte_toNat (lost discarded : Bool) :
    (flagsByte lost discarded).toNat = (if lost = true then 1 else 0) + if discarded = true then 2 else 0 := by
  cases lost <;> cases discarded <;> rfl

theorem Result.delivers_iff (r : Result) : r.delivers = true ↔ ∃ items n, r = .fetch items n ∧ items ≠ [] := by
  cases r with
  | fetch items n => simp [Result.delivers]
  | _ => simp [Result.delivers]

/-! ### Records (R185, R186) -/

theorem toList_flatMap {α : Type} {n : Nat} (v : Vector α n) (f : α → List Byte) :
    v.toList.flatMap f = (List.finRange n).flatMap fun i => f v[i] := by
  have hlist : v.toList = (List.finRange n).map fun i => v[i] := List.ext_getElem (by simp) (by simp)
  rw [hlist, List.flatMap_map]

section Notices
variable (h : Handle) (label : BitVec 16) (v : Tick) (r : Remaining)

theorem Delivered.bytes_fired (late : Bool) : (Delivered.notice (.fired h label v r late)).bytes =
    [1] ++ (bigEndian 4 v.toNat ++ h.bytes ++ bigEndian 2 label.toNat) ++ bigEndian 2 r.number ++ [flagByte late] := by
  simp [Delivered.bytes]

theorem Delivered.bytes_done (late : Bool) : (Delivered.notice (.done h label v late)).bytes =
    [2] ++ (bigEndian 4 v.toNat ++ h.bytes ++ bigEndian 2 label.toNat) ++ bigEndian 2 0 ++ [flagByte late] := by
  have hzero : bigEndian 2 0 = [0, 0] := rfl
  simp [Delivered.bytes, hzero]

theorem Delivered.bytes_cancelled (cause : CancelCause) : (Delivered.notice (.cancelled h label v r cause)).bytes =
    [3] ++ (bigEndian 4 v.toNat ++ h.bytes ++ bigEndian 2 label.toNat) ++ bigEndian 2 r.number ++ [cause.byte] := by
  simp [Delivered.bytes]

theorem Delivered.bytes_captured (input : InputId) (dir : Direction) (k : Fin 8) (final : Bool) :
    (Delivered.notice (.captured v input dir k final)).bytes = [4] ++ bigEndian 4 v.toNat ++ bigEndian 1 input.val ++
      [dir.byte] ++ bigEndian 1 k.val ++ [flagByte final, 0, 0, 0] := by
  simp [Delivered.bytes]

theorem Delivered.bytes_overrun (n : Nat) :
    (Delivered.overrun v n).bytes = [5] ++ bigEndian 4 v.toNat ++ bigEndian 2 n ++ [0, 0, 0, 0, 0] := by
  simp [Delivered.bytes]

end Notices

theorem segmentBytes_some (g : Segment) :
    segmentBytes (some g) = [1] ++ bigEndian 1 g.owner.val ++ bigEndian 1 g.base ++ bigEndian 2 g.length := by
  simp [segmentBytes]

section Inputs
variable {i : Input}

theorem Input.bytes_of_no_edge (h : i.lastEdge = none) : i.bytes =
    [(i.sampled.map flagByte).getD absent, 0, 0, 0, 0, 0xFF] ++ bigEndian 2 i.edgeCount.toNat := by
  simp [Input.bytes, h, absent]

theorem Input.bytes_of_edge {v : Tick} {dir : Direction} (h : i.lastEdge = some (v, dir)) : i.bytes =
    [(i.sampled.map flagByte).getD absent] ++ bigEndian 4 v.toNat ++ [dir.byte] ++ bigEndian 2 i.edgeCount.toNat := by
  simp [Input.bytes, h]

end Inputs

theorem placeBytes_some (sub : Subscription) : placeBytes (some sub) = bigEndian 1 sub.port.val ++
    bigEndian 1 sub.input.val ++ [sub.selection.byte] ++ bigEndian 1 sub.remaining.number := by
  simp [placeBytes]

theorem ListItem.bytes_timed (h : Handle) (v : Tick) :
    ListItem.bytes ⟨h, some v⟩ = h.bytes ++ [0] ++ bigEndian 4 v.toNat := by
  simp [ListItem.bytes, ReportedState.byte]

/-- The bytes of an action: its code, and the segment and position of a PATTERN entry (R186). -/
def Action.record (a : Action) : List Byte :=
  match a with
  | .pattern segment position => [a.byte, byteOf segment.val, byteOf position]
  | _ => [a.byte, absent, 0]

/-- The bytes of a state: its code, the due tick, and the trigger with its offset (R186). -/
def EntryState.record : EntryState → List Byte
  | .timed due => [ReportedState.timed.byte] ++ bytes32 due ++ [absent, absent, 0, 0, 0]
  | .waiting input selection offset _ =>
    [ReportedState.waiting.byte, 0, 0, 0, 0, byteOf input.val, selection.byte] ++ bytes24 offset

/-- The codes of the action and of the state stand side by side, before what belongs to either. -/
theorem Entry.bytes_eq (h : Handle) (e : Entry) : Entry.bytes h e =
    h.bytes ++ bigEndian 2 e.label.toNat ++ bigEndian 2 e.lines.toNat ++ [e.action.record.headD 0] ++
      [e.state.record.headD 0] ++ e.action.record.tail ++ e.state.record.tail ++
      (bigEndian 2 e.remaining.number ++ bigEndian 3 (e.interval.getD 0).toNat ++
        [e.notify.byte, (e.latePolicy.map LatePolicy.byte).getD absent]) := by
  cases ha : e.action <;> cases hs : e.state <;> simp [Entry.bytes, ha, hs, Action.record, EntryState.record]

theorem StatusRecord.bytes_eq (rec : StatusRecord) : rec.bytes =
    [rec.previous.byte, rec.previous.causeByte] ++ [2] ++ bigEndian 1 rec.notices ++
      (flagByte rec.marker.isSome :: bigEndian 2 (rec.marker.getD 0)) ++ bigEndian 3 rec.heartbeat.toNat ++
      bigEndian 2 rec.ownedLines.toNat ++ bigEndian 1 rec.pendingEntries ++ bigEndian 4 rec.timebaseValue.toNat := by
  simp [StatusRecord.bytes, PortState.byte]

/-- Settles O43: the discard mark decides what becomes of a completion, and the records go field by field. -/
theorem completionsAreAssembledOrDropped : Obligations.CompletionsAreAssembledOrDropped := by
  refine ⟨fun p c rest more w r s hoffer => ?_, fun p m more s hl hs hm => ?_, ⟨rfl, flagsByte_toNat, Result.delivers_iff⟩,
    fun a b c d v iv ls h r st due k records items delivered segments inputs places => ?_,
    fun h label v r late cause input dir k n => ?_, fun l g i sub v dir => ?_,
    fun h e seg pos due input sel offset mark => ?_, fun rec cause n => ?_⟩
  · have hfirst : ((s.port p).wires.offers.find? fun x => x.1.isCompletion) = some (.completion c, w) := by
      obtain ⟨hl, rfl⟩ | ⟨hl, hs, rfl⟩ := hoffer
      · exact Wires.offers_completion hl
      · exact Wires.offers_session hl hs
    have hnext {pt : Port} := exec_completion_of_offer (pt := pt) hfirst
    exact ⟨fun hpath => hnext (Port.takeCompletion_of_kept hpath),
      fun hpath => ⟨fun hblock => hnext (Port.takeCompletion_of_dropped hpath hblock),
        fun hblock => hnext (Port.takeCompletion_of_dropped_fetch hpath hblock)⟩⟩
  · have hnone := Wires.offers_of_other hl hs hm
    exact ⟨exec_completion_of_no_offer hnone, exec_withdrawalReply_of_no_offer hnone⟩
  · intro stateByte count
    have hstate : stateByte = st.byte := st.byte_eq.symm
    have hcount : count = r.number := rfl
    rw [hstate, hcount]
    refine ⟨rfl, bytes24_eq iv, ?_, ?_, ?_, ?_, bytes16_eq ls, bytes16_eq ls, bytes32_eq v, ?_, toList_flatMap records _, ?_,
      ?_, ?_, ⟨ListItem.bytes_timed h v, rfl⟩, ?_, ?_, ?_, ?_, ?_, ?_, ?_⟩
    all_goals simp [Result.bytes, Handle.bytes, toList_flatMap]
  · intro count flag about
    refine ⟨Delivered.bytes_fired h label v r late, Delivered.bytes_done h label v late, ?_, ?_, Delivered.bytes_overrun v n⟩
    · rw [← CancelCause.byte_eq]
      exact Delivered.bytes_cancelled h label v r cause
    · rw [← Direction.byte_eq]
      exact Delivered.bytes_captured v input dir k late
  · intro count sample
    have hsample : sample = (i.sampled.map flagByte).getD absent := (sampleByte_eq i.sampled).symm
    rw [hsample, ← policyByte_eq, ← lineStateByte_eq, ← Direction.byte_eq, ← EdgeSelection.byte_eq]
    refine ⟨?_, rfl, segmentBytes_some g, Input.bytes_of_no_edge, Input.bytes_of_edge, rfl, placeBytes_some sub⟩
    cases howner : l.owner <;> simp [Line.bytes, howner, absent, byteOf]
  · refine ⟨e.action.record, e.state.record, _, Entry.bytes_eq h e, ?_, fun ha => by rw [ha]; rfl, fun ha => by rw [ha]; rfl,
      fun ha => by rw [ha]; rfl, fun ha => ?_, fun hs => ?_, fun hs => ?_⟩
    · rw [Notify.byte_eq, latePolicyByte_eq]
      rfl
    · simp [ha, Action.record, Action.byte]
    · simp [hs, EntryState.record, ReportedState.byte, absent]
    · simp [hs, EntryState.record, ReportedState.byte, EdgeSelection.byte_eq]
  · refine ⟨[rec.previous.byte, rec.previous.causeByte], flagByte rec.marker.isSome :: bigEndian 2 (rec.marker.getD 0),
      rec.bytes_eq, fun h => by rw [h]; rfl, fun h => ?_, fun h => by rw [h]; rfl, fun h => by rw [h]; rfl⟩
    rw [h, ← RecoveryCause.byte_eq]
    rfl

end Sys2Proof.Machine
end

section
/-! SUPPORT. The session controllers: what takes a held STATUS up again, the acceptance report and HEARTBEAT, the settlement
and the end of orphan processing, the reports of LINKP, and the steps of a parting. -/

namespace Sys2Proof.Machine

variable {s : State} {p : PortId} {pt : Port} {mark : Bool}

/-! ### Changes of one port -/

theorem State.updWires_eq_withPort (s : State) (p : PortId) (f : Wires → Wires) :
    s.updWires p f = s.withPort p { s.port p with wires := f (s.port p).wires } := rfl

theorem State.updSession_eq_withPort (s : State) (p : PortId) (f : Session → Session) :
    s.updSession p f = s.withPort p { s.port p with session := f (s.port p).session } := rfl

theorem State.updSession_updWires (s : State) (p : PortId) (f : Session → Session) (g : Wires → Wires) :
    (s.updSession p f).updWires p g =
      s.withPort p { s.port p with session := f (s.port p).session, wires := g (s.port p).wires } := by
  rw [State.updWires_eq_withPort, State.updSession_port_same, State.updSession_eq_withPort, State.withPort_withPort]

theorem State.updWires_updSession (s : State) (p : PortId) (f : Session → Session) (g : Wires → Wires) :
    (s.updWires p g).updSession p f =
      s.withPort p { s.port p with session := f (s.port p).session, wires := g (s.port p).wires } := by
  rw [State.updSession_eq_withPort, State.updWires_port_same, State.updWires_eq_withPort, State.withPort_withPort]

theorem State.withPort_reply (s : State) (p : PortId) (pt : Port) (status : Status) (result : Result) :
    (s.withPort p pt).reply p status result = s.withPort p (pt.answered status result) := by
  rw [State.reply, State.updWires_eq_withPort, State.withPort_port_same, State.withPort_withPort]
  rfl

theorem State.not_asking (h : (s.port p).session.asking = none) : ¬ s.asking p = true := by
  simp [State.asking, h]

/-! ### A held STATUS (R167) -/

/-- A STATUS was held, and nothing holds it any more. -/
structure Session.Resumes (se : Session) : Prop where
  held : se.waiting = some ⟨.status, true⟩
  departure : se.departure = .none
  orphan : se.orphan = false
  parting : se.parting = none
  present : se.state ≠ .detached

/-- The STATUS begins: it is no longer held, and none of its questions is answered (log 28). -/
def Session.resume (se : Session) : Session := { se with waiting := some ⟨.status, false⟩, asking := some Asked.start }

theorem State.takeHeld_of_resumes (h : pt.session.Resumes) :
    (s.withPort p pt).takeHeld p = s.withPort p { pt with session := pt.session.resume } := by
  have hsettled := (Session.settled_iff _).2 ⟨h.departure, h.orphan, h.parting⟩
  rw [State.takeHeld, State.withPort_port_same, h.held]
  dsimp only
  rw [if_pos ⟨hsettled, h.present⟩, State.updSession_eq_withPort, State.withPort_port_same, State.withPort_withPort]
  rfl

theorem State.takeHeld_of_not_resumes (h : ¬ pt.session.Resumes) : (s.withPort p pt).takeHeld p = s.withPort p pt := by
  rw [State.takeHeld, State.withPort_port_same]
  split
  · next hheld =>
    refine if_neg fun ⟨hsettled, hpresent⟩ => h ?_
    obtain ⟨hdeparture, horphan, hparting⟩ := (Session.settled_iff _).1 hsettled
    exact ⟨hheld, hdeparture, horphan, hparting, hpresent⟩
  · rfl

/-! ### The acceptance report (R166) -/

theorem exec_acceptanceReport_of_acceptance {code : Byte} {rest : List ToSession}
    (hm : (s.port p).wires.toSession = .acceptance code :: rest) (hasking : (s.port p).session.asking = none) :
    exec (.acceptanceReport p) s = .next (s.withPort p { s.port p with
      session := (s.port p).session.restart
      wires := { (s.port p).wires with
        toSession := rest
        fromSession := (s.port p).wires.fromSession ++ [.answer (decide ((s.port p).session.state = .attached))] } }) := by
  show execAcceptanceReport p s = _
  rw [execAcceptanceReport, hm]
  dsimp only
  rw [if_neg (State.not_asking hasking), State.updSession_updWires]

theorem Session.restart_of_running {se : Session} (hs : se.state = .attached) (hv : se.heartbeat ≠ 0) :
    se.restart = { se with lapseCount := some se.heartbeat.toNat } := if_pos ⟨hs, hv⟩

theorem Session.restart_of_unarmed {se : Session} (h : ¬ (se.state = .attached ∧ se.heartbeat ≠ 0)) : se.restart = se :=
  if_neg h

/-! ### HEARTBEAT (R169) -/

theorem exec_heartbeat_of_requested {v : BitVec 32} (h : SessionRequested s p ⟨.heartbeat v, mark⟩)
    (hs : (s.port p).session.state = .attached) : exec (.heartbeat p) s = .next (s.takeHeartbeat p v) := by
  show execHeartbeat p s = _
  rw [execHeartbeat, (s.sessionRequest_iff p _).2 h]
  exact if_pos hs

theorem State.takeHeartbeat_of_long {v : BitVec 32} (h : 16777215 < v.toNat) :
    s.takeHeartbeat p v = s.withPort p
      ({ s.port p with session := { (s.port p).session with waiting := none } }.answered .badArg .empty) := by
  have hlimit : Config.maxHeartbeat < v.toNat := h
  rw [State.takeHeartbeat, if_pos hlimit, State.updSession_eq_withPort, State.withPort_reply]

/-- Within the limit the 24 bits hold the whole interval, so the restart is absent for an interval of 0 only. -/
theorem lapseFor_setWidth {v : BitVec 32} (h : v.toNat ≤ 16777215) :
    lapseFor (v.setWidth 24) = if v.toNat = 0 then none else some v.toNat := by
  have hwhole : (v.setWidth 24).toNat = v.toNat := by
    rw [BitVec.toNat_setWidth]
    omega
  rw [lapseFor, ← hwhole]
  exact if_congr BitVec.toNat_inj.symm rfl rfl

theorem State.takeHeartbeat_of_fitting {v : BitVec 32} (h : v.toNat ≤ 16777215) :
    s.takeHeartbeat p v = s.withPort p ({ s.port p with session := { (s.port p).session with
      heartbeat := BitVec.ofNat 24 v.toNat
      lapseCount := if v.toNat = 0 then none else some v.toNat
      waiting := none } }.answered .ok (.heartbeat (s.port p).session.heartbeat)) := by
  have hlimit : ¬ Config.maxHeartbeat < v.toNat := Nat.not_lt.2 h
  rw [State.takeHeartbeat, if_neg hlimit]
  dsimp only
  rw [lapseFor_setWidth h, State.updSession_eq_withPort, State.withPort_reply]
  rfl

/-- Settles O46, by the cases of the restart and of the interval that HEARTBEAT brings. -/
theorem heartbeatAndAcceptanceSetTheTimer : Obligations.HeartbeatAndAcceptanceSetTheTimer := by
  refine ⟨fun p code rest s hm hasking => ?_, fun p v mark s hreq hs => ?_⟩
  · dsimp only
    rw [exec_acceptanceReport_of_acceptance hm hasking]
    refine ⟨fun hs hv => ?_, fun hs hv => ?_, fun hs => ?_⟩
    · rw [Session.restart_of_running hs hv, decide_eq_true hs]
    · rw [Session.restart_of_unarmed fun ⟨_, hn⟩ => hn hv, decide_eq_true hs]
    · rw [Session.restart_of_unarmed fun ⟨ha, _⟩ => hs ha, decide_eq_false hs]
  · rw [exec_heartbeat_of_requested hreq hs]
    exact ⟨fun hlong => congrArg _ (State.takeHeartbeat_of_long hlong),
      fun hfits => congrArg _ (State.takeHeartbeat_of_fitting hfits)⟩

/-! ### The settlement report (R164, R171) -/

theorem exec_settlementReport_of_settlement {rest : List ToSession}
    (hm : (s.port p).wires.toSession = .settlement :: rest) (hasking : (s.port p).session.asking = none) :
    exec (.settlementReport p) s = .next ((s.withPort p { s.port p with
      wires := { (s.port p).wires with toSession := rest } }).takeSettlement p) := by
  show execSettlementReport p s = _
  rw [execSettlementReport, hm]
  exact if_neg (State.not_asking hasking)

theorem State.takeSettlement_of_none (h : pt.session.departure = .none) :
    (s.withPort p pt).takeSettlement p = s.withPort p pt := by
  rw [State.takeSettlement, State.withPort_port_same, h]

theorem State.takeSettlement_of_owed (h : pt.session.departure = .awaiting true) :
    (s.withPort p pt).takeSettlement p = s.withPort p { pt with
      session := { pt.session with departure := .none, orphan := true }
      wires := { pt.wires with toLines := pt.wires.toLines ++ [.orphanStart] } } := by
  rw [State.takeSettlement, State.withPort_port_same, h]
  dsimp only
  rw [State.updSession_updWires, State.withPort_port_same, State.withPort_withPort]

theorem State.takeSettlement_of_unowed (h : pt.session.departure = .awaiting false) :
    (s.withPort p pt).takeSettlement p =
      (s.withPort p { pt with session := { pt.session with departure := .none } }).takeHeld p := by
  rw [State.takeSettlement, State.withPort_port_same, h]
  dsimp only
  rw [State.updSession_eq_withPort, State.withPort_port_same, State.withPort_withPort]

/-! ### The end of orphan processing (R172) -/

theorem exec_orphanCompletionReply_of_reply (hreply : (s.port p).wires.orphanReply = true)
    (hasking : (s.port p).session.asking = none) :
    exec (.orphanCompletionReply p) s = .next ((s.withPort p { s.port p with
      session := { (s.port p).session with orphan := false }
      wires := { (s.port p).wires with orphanReply := false } }).takeHeld p) := by
  show execOrphanCompletionReply p s = _
  rw [execOrphanCompletionReply, if_pos (by simp [State.asking, hreply, hasking]), State.updWires_updSession]

/-- Settles O48, by the departure field, and by whether the held STATUS is taken up. -/
theorem settlementAndOrphanReply : Obligations.SettlementAndOrphanReply := by
  refine ⟨fun p rest s hm hasking => ?_, fun p s hreply hasking => ?_⟩
  · have hrun := exec_settlementReport_of_settlement hm hasking
    refine ⟨fun howed => hrun.trans (congrArg _ (State.takeSettlement_of_owed howed)),
      fun hnone => hrun.trans (congrArg _ (State.takeSettlement_of_none hnone)), fun hdeparture => ?_⟩
    have hend := hrun.trans (congrArg _ (State.takeSettlement_of_unowed hdeparture))
    refine ⟨fun hholds => hend.trans (congrArg _ (State.takeHeld_of_not_resumes fun hresumes => ?_)),
      fun horphan hparting hheld hpresent =>
        hend.trans (congrArg _ (State.takeHeld_of_resumes ⟨hheld, rfl, horphan, hparting, hpresent⟩))⟩
    obtain horphan | hparting | hheld | hdetached := hholds
    exacts [Bool.false_ne_true (hresumes.orphan.symm.trans horphan), hparting hresumes.parting, hheld hresumes.held,
      hresumes.present hdetached]
  · have hend := exec_orphanCompletionReply_of_reply hreply hasking
    refine ⟨fun hholds => hend.trans (congrArg _ (State.takeHeld_of_not_resumes fun hresumes => ?_)),
      fun hdeparture hparting hheld hpresent =>
        hend.trans (congrArg _ (State.takeHeld_of_resumes ⟨hheld, hdeparture, rfl, hparting, hpresent⟩))⟩
    obtain hdeparture | hparting | hheld | hdetached := hholds
    exacts [hdeparture hresumes.departure, hparting hresumes.parting, hheld hresumes.held, hresumes.present hdetached]

/-! ### LINKP rises (R161) -/

theorem exec_reportOfLinkpRising_of_rising {rest : List LinkpReport}
    (hm : (s.port p).wires.linkpReports = .rising :: rest) (hasking : (s.port p).session.asking = none) :
    exec (.reportOfLinkpRising p) s = .next (s.withPort p { s.port p with
      session := (s.port p).session.rise, wires := { (s.port p).wires with linkpReports := rest } }) := by
  show execReportOfLinkpRising p s = _
  rw [execReportOfLinkpRising, hm]
  dsimp only
  rw [if_neg (State.not_asking hasking), State.updWires_updSession]

theorem Session.rise_of_detached {se : Session} (hs : se.state = .detached) :
    se.rise = { se with state := .recovering (if se.attachedSinceReset then .linkLoss else .reset) } := by
  rw [Session.rise, hs]

theorem Session.rise_of_present {se : Session} (hs : se.state ≠ .detached) : se.rise = se := by
  unfold Session.rise
  split
  · next hd => exact absurd hd hs
  · rfl

/-! ### LINKP falls (R162) -/

section Fall
variable {rest : List LinkpReport} (hm : (s.port p).wires.linkpReports = .falling :: rest)
  (hasking : (s.port p).session.asking = none)
include hm hasking

theorem exec_reportOfLinkpFalling_of_detached (hs : (s.port p).session.state = .detached) :
    exec (.reportOfLinkpFalling p) s = .next (s.withPort p { s.port p with
      wires := { (s.port p).wires with linkpReports := rest } }) := by
  show execReportOfLinkpFalling p s = _
  rw [execReportOfLinkpFalling, hm]
  exact (if_neg (State.not_asking hasking)).trans (if_pos hs)

theorem exec_reportOfLinkpFalling_of_present (hs : (s.port p).session.state ≠ .detached) :
    exec (.reportOfLinkpFalling p) s = .next ((s.withPort p { s.port p with
      wires := { (s.port p).wires with linkpReports := rest } }).takeFall p) := by
  show execReportOfLinkpFalling p s = _
  rw [execReportOfLinkpFalling, hm]
  exact (if_neg (State.not_asking hasking)).trans (if_neg hs)

end Fall

theorem State.takeFall_of_attached (hs : pt.session.state = .attached) :
    (s.withPort p pt).takeFall p = s.withPort p { pt with
      session := { pt.session with
        state := .detached, lapseCount := none, departure := .awaiting true, waiting := none,
        removed := pt.session.removed || pt.session.waiting.isSome }
      wires := { pt.wires with
        fromSession := pt.wires.fromSession ++ [.departure true], toQueue := pt.wires.toQueue ++ [.departure] } } := by
  have hdeparture : pt.session.fallDeparture = .awaiting true := if_pos hs
  rw [State.takeFall, State.updSession_updWires, State.withPort_port_same, State.withPort_withPort, Session.fall,
    hdeparture, decide_eq_true hs, if_pos rfl]

theorem Session.fallDeparture_of_recovering {se : Session} {cause : RecoveryCause} (hs : se.state = .recovering cause) :
    se.fallDeparture = if se.departure = .none then .awaiting false else se.departure := by
  rw [Session.fallDeparture, if_neg (by simp [hs])]
  cases hd : se.departure with
  | none => rfl
  | awaiting owed => rfl

theorem State.takeFall_of_recovering {cause : RecoveryCause} (hs : pt.session.state = .recovering cause) :
    (s.withPort p pt).takeFall p = s.withPort p { pt with
      session := { pt.session with
        state := .detached, lapseCount := none,
        departure := if pt.session.departure = .none then .awaiting false else pt.session.departure, waiting := none,
        removed := pt.session.removed || pt.session.waiting.isSome }
      wires := { pt.wires with fromSession := pt.wires.fromSession ++ [.departure true] } } := by
  have hother : pt.session.state ≠ .attached := by simp [hs]
  rw [State.takeFall, State.updSession_updWires, State.withPort_port_same, State.withPort_withPort, Session.fall,
    Session.fallDeparture_of_recovering hs, decide_eq_false hother, if_neg Bool.false_ne_true]

/-- Settles O49, by the port state that the report of LINKP meets. -/
theorem linkpMovesThePortState : Obligations.LinkpMovesThePortState := by
  refine ⟨fun p rest s hm hasking => ?_, fun p rest s hm hasking => ?_⟩
  · dsimp only
    rw [exec_reportOfLinkpRising_of_rising hm hasking]
    refine ⟨fun hs hsince => ?_, fun hs hsince => ?_, fun hs => ?_⟩
    · rw [Session.rise_of_detached hs, hsince, if_neg Bool.false_ne_true]
    · rw [Session.rise_of_detached hs, hsince, if_pos rfl]
    · rw [Session.rise_of_present hs]
  · refine ⟨fun hs => ?_, fun cause hs => ?_, exec_reportOfLinkpFalling_of_detached hm hasking⟩
    · exact (exec_reportOfLinkpFalling_of_present hm hasking (by simp [hs])).trans
        (congrArg _ (State.takeFall_of_attached hs))
    · exact (exec_reportOfLinkpFalling_of_present hm hasking (by simp [hs])).trans
        (congrArg _ (State.takeFall_of_recovering hs))

/-! ### The steps of a parting (R174) -/

theorem exec_parting_of_requested (h : SessionRequested s p ⟨.parting, mark⟩) :
    exec (.parting p) s = .next (s.withPort p { s.port p with
      session := { (s.port p).session with waiting := none, parting := some ⟨.entries, 0, 0, 0, 0⟩ }
      wires := { (s.port p).wires with partingRequest := true } }) := by
  show execParting p s = _
  rw [execParting, (s.sessionRequest_iff p _).2 h]
  dsimp only
  rw [State.updSession_updWires]

section Replies
variable {pa : Parting} {n : Nat} (hreply : (s.port p).wires.partingReply = some n)
  (hasking : (s.port p).session.asking = none) (hparting : (s.port p).session.parting = some pa)
include hreply hasking hparting

theorem exec_partingStepReply_of_reply (hstep : pa.step ≠ .flush) :
    exec (.partingStepReply p) s = .next (s.withPort p { s.port p with
      session := { (s.port p).session with parting := some (pa.advance n) }
      wires := (s.port p).wires.sendStep (pa.advance n).step }) := by
  show execPartingStepReply p s = _
  rw [execPartingStepReply, hparting, hreply]
  dsimp only
  rw [if_neg (not_or.2 ⟨hstep, State.not_asking hasking⟩), State.updSession_updWires]

/-! ### The end of a parting (R175) -/

theorem exec_flushReply_of_reply (hstep : pa.step = .flush) :
    exec (.flushReply p) s = .next ((s.withPort p ({ s.port p with
      session := { (s.port p).session with heartbeat := 0, lapseCount := none, parting := none }
      wires := { (s.port p).wires with partingReply := none } }.answered .ok
        (.parting pa.entries pa.lines pa.segments pa.subscriptions))).takeHeld p) := by
  show execFlushReply p s = _
  rw [execFlushReply, hparting, hreply]
  dsimp only
  rw [if_pos ⟨hstep, Bool.eq_false_iff.2 (State.not_asking hasking)⟩, State.endParting, State.updSession_updWires,
    State.withPort_reply]

end Replies

/-- Settles O51, by the step that a reply answers, and at the end by whether the held STATUS is taken up. -/
theorem partingRunsItsSteps : Obligations.PartingRunsItsSteps := by
  refine ⟨fun p s => ⟨fun mark => exec_parting_of_requested, fun n a b c d hreply hasking => ?_⟩,
    fun p n a b c d s hparting hreply hasking => ?_⟩
  · have honward {pa : Parting} := exec_partingStepReply_of_reply (pa := pa) hreply hasking
    exact ⟨fun hparting => honward hparting nofun, fun hparting => honward hparting nofun,
      fun hparting => honward hparting nofun, fun hparting => honward hparting nofun⟩
  · have hend := exec_flushReply_of_reply hreply hasking hparting rfl
    refine ⟨fun hholds => hend.trans (congrArg _ (State.takeHeld_of_not_resumes fun hresumes => ?_)),
      fun hheld hdeparture horphan hpresent =>
        hend.trans (congrArg _ (State.takeHeld_of_resumes ⟨hheld, hdeparture, horphan, rfl, hpresent⟩))⟩
    obtain hheld | hdeparture | horphan | hdetached := hholds
    exacts [hheld hresumes.held, hdeparture hresumes.departure, Bool.false_ne_true (hresumes.orphan.symm.trans horphan),
      hresumes.present hdetached]

end Sys2Proof.Machine
end

section
/-! SUPPORT. The queue of steps: a step takes its front, and no command touches it. -/

namespace Sys2Proof.Machine

/-! ### One step -/

/-- The step is taken on the state with the rest of the queue. -/
theorem step_of_front {c : Instr} {rest : List Instr} {s : State} (h : s.pending = c :: rest) :
    step s = exec c { s with pending := rest } := by
  rw [step, h]

/-- On an empty queue the part idles (log 3). -/
theorem step_of_empty {s : State} (h : s.pending = []) : step s = .next s := by
  rw [step, h]

/-- Settles O1, by whether the queue is empty. -/
theorem stepTakesTheFront : Obligations.StepTakesTheFront :=
  ⟨fun _ _ => step_of_front rfl, fun _ => step_of_empty⟩

/-! ### Every command -/

/-- Settles O2: the frame of every command holds the queue of steps. -/
theorem everyCommandAnswersNext : Obligations.EveryCommandAnswersNext :=
  fun c s => (exec_frame c s).mono fun _ hframe => hframe.pending

end Sys2Proof.Machine
end
